-- ==== Sys2Proof/Word.lean ====
section
/-! DEFINITION. The widths of the machine: bytes, halfwords and words (R14, R15: unsigned bit vectors, bit 0 the least significant). -/

namespace Sys2Proof

/-- Eight bits: the data of a byte access. -/
abbrev Byte := BitVec 8

/-- Sixteen bits: the data of a halfword access. -/
abbrev Half := BitVec 16

/-- Thirty-two bits: a register of the block, an address, the data of a word access. -/
abbrev Word := BitVec 32

end Sys2Proof
end

