-- ==== Sys2Proof/Machine/Operands.lean ====
section
/-! DEFINITION. The operand forms: placing a field's bits in a word, and the byte lanes of an access (R73, R103, R104). -/

namespace Sys2Proof.Machine

/-- The bit `b` at position `i` of a word: `b << i` (R103). -/
def bitAt (b : Bool) (i : Nat) : Word := if b then 1#32 <<< i else 0#32

/-- The unsigned field `v` with its bit 0 at position `i` of a word: `v << i` (R104 a). -/
def fieldAt {w : Nat} (v : BitVec w) (i : Nat) : Word := v.setWidth 32 <<< i

/-- A written word carries a 1 in one of the positions `reserved` (R40). -/
def hasBits (v reserved : Word) : Bool := v &&& reserved != 0#32

/-- The lane mask of a word access (R73). -/
def wordMask : Word := 0xFFFFFFFF#32

/-- The lane mask of a halfword access at byte offset `k`: `0xFFFF << 8k` (R73). -/
def halfMask (k : Nat) : Word := 0x0000FFFF#32 <<< (8 * k)

/-- The lane mask of a byte access at byte offset `k`: `0xFF << 8k` (R73). -/
def byteMask (k : Nat) : Word := 0x000000FF#32 <<< (8 * k)

/-- The shifted value V of a halfword write at byte offset `k` (R73). -/
def halfLane (v : Half) (k : Nat) : Word := fieldAt v (8 * k)

/-- The shifted value V of a byte write at byte offset `k` (R73). -/
def byteLane (v : Byte) (k : Nat) : Word := fieldAt v (8 * k)

/-- What a halfword read at byte offset `k` takes of the register's read value (R73). -/
def halfOfWord (w : Word) (k : Nat) : Half := w.extractLsb' (8 * k) 16

/-- What a byte read at byte offset `k` takes of the register's read value (R73). -/
def laneOfWord (w : Word) (k : Nat) : Byte := w.extractLsb' (8 * k) 8

/-- The lane mask selects the byte whose lowest bit is `lo`: `M[lo+7:lo] = 0xFF` (R201). -/
def selectsByte (m : Word) (lo : Nat) : Bool := m.extractLsb' lo 8 == 0xFF#8

end Sys2Proof.Machine
end

