-- ==== Sys2Proof/Config.lean ====
section
/-! DEFINITION. What an implementation fixes, the open parameters of the spec, and the free values: the constants without a body,
of which nothing in Lean can prove a value. -/

namespace Sys2Proof.Config

/-- CPUID reads this constant (R6, R22). -/
def cpuidValue : Word := 0x410FC241#32

/-- AIRCR[31:16] must be written with this key (R105, R166). -/
def aircrWriteKey : Half := 0x05FA#16

/-- AIRCR[31:16] reads as this constant (R25, R167). -/
def aircrReadKey : Half := 0xFA05#16

/-- NUM_IRQ, the number of external interrupt lines: OPEN, at most 112 (R9; DESIGN CHOICE, log 16). -/
opaque numIrq : Fin 113

/-- HAS_MPU: OPEN (R10). No rule of the spec depends on it: an XN region faults a fetch with or without an MPU (R250). -/
opaque hasMpu : Bool

/-- HAS_FPU: the spec takes the FPU as present (R10), so the lazy state preservation faults exist. -/
def hasFpu : Bool := true

/-- draw(1): the bit of the n-th draw (R140, R149, R267, R302; DESIGN CHOICE, log 3). -/
opaque drawBit : Nat → Bool

/-- draw(32): the word of the n-th draw (R191, R258, R263, R267, R382; DESIGN CHOICE, log 3). -/
opaque drawWord : Nat → Word

/-- The word that the `draw`-th draw reads from the vector table at `base` for exception `n`, or, with `n` = 0, its first word: what the table holds, and,
but for its first two words (R384), which word is whose, is outside the spec (R86, N7; DESIGN CHOICE, log 21). -/
opaque vectorWord (base : Word) (n draw : Nat) : Word

/-- The length in words of the frame that the n-th draw belongs to: the frame is outside the spec (R311; DESIGN CHOICE, log 37). -/
opaque frameWords : Nat → BitVec 30

/-- The priority of an exception for which no field holds one: Reset, the debug monitor and the numbers that name
nothing (R45, R300; DESIGN CHOICE, log 11). -/
opaque unstatedPrio : Nat → Byte

/-- CFSR_WRITE: what a write of 1, and of 0, does to a bit of CFSR (R12, R231). -/
inductive CfsrWrite where
  | rcW1  -- a 1 clears the bit, a 0 leaves it
  | rw    -- the selected bytes take the written value
deriving DecidableEq, Repr

/-- RESERVED_WRITE: what becomes of a write that carries a 1 in a reserved position (R13, R40). -/
inductive ReservedWrite where
  | refuse  -- the write has no meaning
  | ignore  -- the bit is dropped and the rest of the write performed
deriving DecidableEq, Repr

/-- BFHFNMIGN_RECORDS: whether an ignored data bus error is still recorded in BFSR and BFAR (R13, R191). -/
inductive IgnoredRecords where
  | none    -- nothing is recorded
  | status  -- PRECISERR, BFAR and BFARVALID are written
  | drawn   -- one or the other, a draw at every such error: the spec's default
deriving DecidableEq, Repr

/-- The open parameters that a state carries, fixed for a machine: no step changes them. -/
structure Params where
  /-- NUM_IRQ (R9). -/
  numIrq : Fin 113
  /-- CFSR_WRITE (R12). -/
  cfsrWrite : CfsrWrite
  /-- RESERVED_WRITE (R13). -/
  reservedWrite : ReservedWrite
  /-- BFHFNMIGN_RECORDS (R13). -/
  ignoredRecords : IgnoredRecords
deriving DecidableEq, Repr

/-- The parameters of the machine after reset: the spec's defaults (R12, R13), and NUM_IRQ left open
(PRESUMED, log 7; DESIGN CHOICE, logs 6, 16, 27). -/
def defaultParams : Params where
  numIrq := numIrq
  cfsrWrite := .rcW1
  reservedWrite := .refuse
  ignoredRecords := .drawn

end Sys2Proof.Config
end

