-- ==== Sys2Proof/Syntax.lean ====
section
/-! DEFINITION. The operations of the block: the access tuple of R100 and one constructor of `Instr` per row of the opcode table (R110). -/

namespace Sys2Proof

/-- The direction of an access (R100: 0 read, 1 write). -/
inductive Dir where
  | read
  | write
deriving DecidableEq, Repr

/-- The size of an access (R100: 1, 2 or 4 bytes). -/
inductive Size where
  | byte
  | half
  | word
deriving DecidableEq, Repr

/-- The number of bytes of a size. -/
def Size.bytes : Size → Nat
  | .byte => 1
  | .half => 2
  | .word => 4

/-- One bus access as the source describes it: `(priv, dir, size, addr, data)` (R100). The data of a write is zero-extended to 32 bits; a read carries none, written 0. -/
structure Access where
  priv : Bool
  dir : Dir
  size : Size
  addr : Word
  data : Word
deriving DecidableEq, Repr

/-- The operations of R110. Every operation carries `priv`, the privilege of the access (R101), and a write its data `v`. -/
inductive Instr where
  /-- `RD.ACTLR`: read word at 0xE000E008 (R120). -/
  | rdActlr (priv : Bool)
  /-- `WR.ACTLR`: write word at 0xE000E008 (R121). -/
  | wrActlr (priv : Bool) (v : Word)
  /-- `RD.CPUID`: read word at 0xE000ED00 (R127). -/
  | rdCpuid (priv : Bool)
  /-- `WR.CPUID`: write word at 0xE000ED00 (R128). -/
  | wrCpuid (priv : Bool) (v : Word)
  /-- `RD.ICSR`: read word at 0xE000ED04 (R140). -/
  | rdIcsr (priv : Bool)
  /-- `WR.ICSR`: write word at 0xE000ED04 (R141). -/
  | wrIcsr (priv : Bool) (v : Word)
  /-- `RD.VTOR`: read word at 0xE000ED08 (R155). -/
  | rdVtor (priv : Bool)
  /-- `WR.VTOR`: write word at 0xE000ED08 (R156). -/
  | wrVtor (priv : Bool) (v : Word)
  /-- `RD.AIRCR`: read word at 0xE000ED0C (R165). -/
  | rdAircr (priv : Bool)
  /-- `WR.AIRCR`: write word at 0xE000ED0C (R166). -/
  | wrAircr (priv : Bool) (v : Word)
  /-- `RD.SCR`: read word at 0xE000ED10 (R180). -/
  | rdScr (priv : Bool)
  /-- `WR.SCR`: write word at 0xE000ED10 (R181). -/
  | wrScr (priv : Bool) (v : Word)
  /-- `RD.CCR`: read word at 0xE000ED14 (R188). -/
  | rdCcr (priv : Bool)
  /-- `WR.CCR`: write word at 0xE000ED14 (R189). -/
  | wrCcr (priv : Bool) (v : Word)
  /-- `RD.SHPR1`: read word at 0xE000ED18 (R200). -/
  | rdShpr1 (priv : Bool)
  /-- `WR.SHPR1`: write word at 0xE000ED18 (R201). -/
  | wrShpr1 (priv : Bool) (v : Word)
  /-- `RD.SHPR2`: read word at 0xE000ED1C (R202). -/
  | rdShpr2 (priv : Bool)
  /-- `WR.SHPR2`: write word at 0xE000ED1C (R203). -/
  | wrShpr2 (priv : Bool) (v : Word)
  /-- `RD.SHPR3`: read word at 0xE000ED20 (R204). -/
  | rdShpr3 (priv : Bool)
  /-- `WR.SHPR3`: write word at 0xE000ED20 (R205). -/
  | wrShpr3 (priv : Bool) (v : Word)
  /-- `RD.SHCSR`: read word at 0xE000ED24 (R210). -/
  | rdShcsr (priv : Bool)
  /-- `WR.SHCSR`: write word at 0xE000ED24 (R211). -/
  | wrShcsr (priv : Bool) (v : Word)
  /-- `RD.CFSR`: read word at 0xE000ED28 (R230). -/
  | rdCfsr (priv : Bool)
  /-- `WR.CFSR`: write word at 0xE000ED28 (R231). -/
  | wrCfsr (priv : Bool) (v : Word)
  /-- `RD.HFSR`: read word at 0xE000ED2C (R251). -/
  | rdHfsr (priv : Bool)
  /-- `WR.HFSR`: write word at 0xE000ED2C (R252). -/
  | wrHfsr (priv : Bool) (v : Word)
  /-- `RD.MMFAR`: read word at 0xE000ED34 (R256). -/
  | rdMmfar (priv : Bool)
  /-- `WR.MMFAR`: write word at 0xE000ED34 (R257). -/
  | wrMmfar (priv : Bool) (v : Word)
  /-- `RD.BFAR`: read word at 0xE000ED38 (R259). -/
  | rdBfar (priv : Bool)
  /-- `WR.BFAR`: write word at 0xE000ED38 (R260). -/
  | wrBfar (priv : Bool) (v : Word)
  /-- `RD.AFSR`: read word at 0xE000ED3C (R262). -/
  | rdAfsr (priv : Bool)
  /-- `WR.AFSR`: write word at 0xE000ED3C (R263). -/
  | wrAfsr (priv : Bool) (v : Word)
  /-- `RDB.PRI_4`: read byte at 0xE000ED18 (R208; bits 7:0 of SHPR1). -/
  | rdbPri4 (priv : Bool)
  /-- `WRB.PRI_4`: write byte at 0xE000ED18 (R208; bits 7:0 of SHPR1). -/
  | wrbPri4 (priv : Bool) (v : Byte)
  /-- `RDB.PRI_5`: read byte at 0xE000ED19 (R208; bits 15:8 of SHPR1). -/
  | rdbPri5 (priv : Bool)
  /-- `WRB.PRI_5`: write byte at 0xE000ED19 (R208; bits 15:8 of SHPR1). -/
  | wrbPri5 (priv : Bool) (v : Byte)
  /-- `RDB.PRI_6`: read byte at 0xE000ED1A (R208; bits 23:16 of SHPR1). -/
  | rdbPri6 (priv : Bool)
  /-- `WRB.PRI_6`: write byte at 0xE000ED1A (R208; bits 23:16 of SHPR1). -/
  | wrbPri6 (priv : Bool) (v : Byte)
  /-- `RDB.SHPR1_B3`: read byte at 0xE000ED1B (R208; bits 31:24 of SHPR1). -/
  | rdbShpr1B3 (priv : Bool)
  /-- `WRB.SHPR1_B3`: write byte at 0xE000ED1B (R208; bits 31:24 of SHPR1). -/
  | wrbShpr1B3 (priv : Bool) (v : Byte)
  /-- `RDH.SHPR1_LO`: read half at 0xE000ED18 (R208; bits 15:0 of SHPR1). -/
  | rdhShpr1Lo (priv : Bool)
  /-- `WRH.SHPR1_LO`: write half at 0xE000ED18 (R208; bits 15:0 of SHPR1). -/
  | wrhShpr1Lo (priv : Bool) (v : Half)
  /-- `RDH.SHPR1_HI`: read half at 0xE000ED1A (R208; bits 31:16 of SHPR1). -/
  | rdhShpr1Hi (priv : Bool)
  /-- `WRH.SHPR1_HI`: write half at 0xE000ED1A (R208; bits 31:16 of SHPR1). -/
  | wrhShpr1Hi (priv : Bool) (v : Half)
  /-- `RDB.SHPR2_B0`: read byte at 0xE000ED1C (R208; bits 7:0 of SHPR2). -/
  | rdbShpr2B0 (priv : Bool)
  /-- `WRB.SHPR2_B0`: write byte at 0xE000ED1C (R208; bits 7:0 of SHPR2). -/
  | wrbShpr2B0 (priv : Bool) (v : Byte)
  /-- `RDB.SHPR2_B1`: read byte at 0xE000ED1D (R208; bits 15:8 of SHPR2). -/
  | rdbShpr2B1 (priv : Bool)
  /-- `WRB.SHPR2_B1`: write byte at 0xE000ED1D (R208; bits 15:8 of SHPR2). -/
  | wrbShpr2B1 (priv : Bool) (v : Byte)
  /-- `RDB.SHPR2_B2`: read byte at 0xE000ED1E (R208; bits 23:16 of SHPR2). -/
  | rdbShpr2B2 (priv : Bool)
  /-- `WRB.SHPR2_B2`: write byte at 0xE000ED1E (R208; bits 23:16 of SHPR2). -/
  | wrbShpr2B2 (priv : Bool) (v : Byte)
  /-- `RDB.PRI_11`: read byte at 0xE000ED1F (R208; bits 31:24 of SHPR2). -/
  | rdbPri11 (priv : Bool)
  /-- `WRB.PRI_11`: write byte at 0xE000ED1F (R208; bits 31:24 of SHPR2). -/
  | wrbPri11 (priv : Bool) (v : Byte)
  /-- `RDH.SHPR2_LO`: read half at 0xE000ED1C (R208; bits 15:0 of SHPR2). -/
  | rdhShpr2Lo (priv : Bool)
  /-- `WRH.SHPR2_LO`: write half at 0xE000ED1C (R208; bits 15:0 of SHPR2). -/
  | wrhShpr2Lo (priv : Bool) (v : Half)
  /-- `RDH.SHPR2_HI`: read half at 0xE000ED1E (R208; bits 31:16 of SHPR2). -/
  | rdhShpr2Hi (priv : Bool)
  /-- `WRH.SHPR2_HI`: write half at 0xE000ED1E (R208; bits 31:16 of SHPR2). -/
  | wrhShpr2Hi (priv : Bool) (v : Half)
  /-- `RDB.SHPR3_B0`: read byte at 0xE000ED20 (R208; bits 7:0 of SHPR3). -/
  | rdbShpr3B0 (priv : Bool)
  /-- `WRB.SHPR3_B0`: write byte at 0xE000ED20 (R208; bits 7:0 of SHPR3). -/
  | wrbShpr3B0 (priv : Bool) (v : Byte)
  /-- `RDB.SHPR3_B1`: read byte at 0xE000ED21 (R208; bits 15:8 of SHPR3). -/
  | rdbShpr3B1 (priv : Bool)
  /-- `WRB.SHPR3_B1`: write byte at 0xE000ED21 (R208; bits 15:8 of SHPR3). -/
  | wrbShpr3B1 (priv : Bool) (v : Byte)
  /-- `RDB.PRI_14`: read byte at 0xE000ED22 (R208; bits 23:16 of SHPR3). -/
  | rdbPri14 (priv : Bool)
  /-- `WRB.PRI_14`: write byte at 0xE000ED22 (R208; bits 23:16 of SHPR3). -/
  | wrbPri14 (priv : Bool) (v : Byte)
  /-- `RDB.PRI_15`: read byte at 0xE000ED23 (R208; bits 31:24 of SHPR3). -/
  | rdbPri15 (priv : Bool)
  /-- `WRB.PRI_15`: write byte at 0xE000ED23 (R208; bits 31:24 of SHPR3). -/
  | wrbPri15 (priv : Bool) (v : Byte)
  /-- `RDH.SHPR3_LO`: read half at 0xE000ED20 (R208; bits 15:0 of SHPR3). -/
  | rdhShpr3Lo (priv : Bool)
  /-- `WRH.SHPR3_LO`: write half at 0xE000ED20 (R208; bits 15:0 of SHPR3). -/
  | wrhShpr3Lo (priv : Bool) (v : Half)
  /-- `RDH.SHPR3_HI`: read half at 0xE000ED22 (R208; bits 31:16 of SHPR3). -/
  | rdhShpr3Hi (priv : Bool)
  /-- `WRH.SHPR3_HI`: write half at 0xE000ED22 (R208; bits 31:16 of SHPR3). -/
  | wrhShpr3Hi (priv : Bool) (v : Half)
  /-- `RDB.MMFSR`: read byte at 0xE000ED28 (R266; bits 7:0 of CFSR). -/
  | rdbMmfsr (priv : Bool)
  /-- `WRB.MMFSR`: write byte at 0xE000ED28 (R266; bits 7:0 of CFSR). -/
  | wrbMmfsr (priv : Bool) (v : Byte)
  /-- `RDB.BFSR`: read byte at 0xE000ED29 (R266; bits 15:8 of CFSR). -/
  | rdbBfsr (priv : Bool)
  /-- `WRB.BFSR`: write byte at 0xE000ED29 (R266; bits 15:8 of CFSR). -/
  | wrbBfsr (priv : Bool) (v : Byte)
  /-- `RDB.UFSR_LO`: read byte at 0xE000ED2A (R266; bits 23:16 of CFSR). -/
  | rdbUfsrLo (priv : Bool)
  /-- `WRB.UFSR_LO`: write byte at 0xE000ED2A (R266; bits 23:16 of CFSR). -/
  | wrbUfsrLo (priv : Bool) (v : Byte)
  /-- `RDB.UFSR_HI`: read byte at 0xE000ED2B (R266; bits 31:24 of CFSR). -/
  | rdbUfsrHi (priv : Bool)
  /-- `WRB.UFSR_HI`: write byte at 0xE000ED2B (R266; bits 31:24 of CFSR). -/
  | wrbUfsrHi (priv : Bool) (v : Byte)
  /-- `RDH.CFSR_LO`: read half at 0xE000ED28 (R266; bits 15:0 of CFSR). -/
  | rdhCfsrLo (priv : Bool)
  /-- `WRH.CFSR_LO`: write half at 0xE000ED28 (R266; bits 15:0 of CFSR). -/
  | wrhCfsrLo (priv : Bool) (v : Half)
  /-- `RDH.UFSR`: read half at 0xE000ED2A (R266; bits 31:16 of CFSR). -/
  | rdhUfsr (priv : Bool)
  /-- `WRH.UFSR`: write half at 0xE000ED2A (R266; bits 31:16 of CFSR). -/
  | wrhUfsr (priv : Bool) (v : Half)
deriving DecidableEq, Repr

end Sys2Proof
end

