-- ==== Sys2Proof/Machine/State.lean ====
section
/-! DEFINITION. The state of the machine, the reasons a step can stop, and the state after reset (10_state.md R20 to R51, 70_reset_and_hazards.md R381, R382). -/

namespace Sys2Proof.Machine

/-- ACTLR, the five disable bits (R21). -/
structure Actlr where
  disoofp : Bool
  disfpca : Bool
  disfold : Bool
  disdefwbuf : Bool
  dismcycint : Bool
deriving DecidableEq, Repr

/-- SCR (R26). -/
structure Scr where
  sevonpend : Bool
  sleepdeep : Bool
  sleeponexit : Bool
deriving DecidableEq, Repr

/-- CCR (R27). -/
structure Ccr where
  stkalign : Bool
  bfhfnmign : Bool
  div0Trp : Bool
  unalignTrp : Bool
  usersetmpend : Bool
  nonbasethrdena : Bool
deriving DecidableEq, Repr

/-- The implemented bits [7:4] of the priority fields of SHPR1 to SHPR3 (R28 to R30, R206). -/
structure Pri where
  pri4 : BitVec 4
  pri5 : BitVec 4
  pri6 : BitVec 4
  pri11 : BitVec 4
  pri14 : BitVec 4
  pri15 : BitVec 4
deriving DecidableEq, Repr

/-- The three enable bits of SHCSR, the stored part of that register (R31). -/
structure Enables where
  usgfault : Bool
  busfault : Bool
  memfault : Bool
deriving DecidableEq, Repr

/-- A register whose fields the processor acts on, and may act on later than they are written (R81, R324 e). -/
inductive SettingReg where
  | vtor | aircr | scr | ccr | shpr1 | shpr2 | shpr3 | shcsr
deriving DecidableEq, Repr

/-- The fields of those registers as the processor acts on them: each value was once stored, and may since have been overwritten (R81, R324 e;
DESIGN CHOICE, log 20). -/
structure Settings where
  tbloff : BitVec 21
  prigroup : BitVec 3
  scr : Scr
  ccr : Ccr
  pri : Pri
  ena : Enables
deriving DecidableEq, Repr

/-- The last read of the vector table (R86, R157, R311 d): the model's record of it. -/
structure VectorFetch where
  /-- The byte address where the table started. -/
  base : Word
  /-- The table lay in the SRAM region, not in the Code region (R86, R159). -/
  sram : Bool
  /-- The exception whose vector was read. -/
  exc : Nat
deriving DecidableEq, Repr

/-- CFSR: the nineteen flags of UFSR, BFSR and MMFSR (R32 to R35). -/
structure Cfsr where
  divbyzero : Bool
  unaligned : Bool
  nocp : Bool
  invpc : Bool
  invstate : Bool
  undefinstr : Bool
  bfarvalid : Bool
  lsperr : Bool
  stkerr : Bool
  unstkerr : Bool
  impreciserr : Bool
  preciserr : Bool
  ibuserr : Bool
  mmarvalid : Bool
  mlsperr : Bool
  mstkerr : Bool
  munstkerr : Bool
  daccviol : Bool
  iaccviol : Bool
deriving DecidableEq, Repr

/-- HFSR (R36). -/
structure Hfsr where
  debugVt : Bool
  forced : Bool
  vecttbl : Bool
deriving DecidableEq, Repr

/-- What the spec says of a stacked frame (R311, R313, R314, R190); its layout is outside the spec (log 21). -/
structure Frame where
  /-- The exception that was being processed when the frame was stacked, 0 in Thread mode (R305). -/
  exc : BitVec 9
  /-- The stacked PC (R313). -/
  pc : Word
  /-- Bit 9 of the stacked PSR: the SP was moved by 4 to reach 8-byte alignment (R190). -/
  align : Bool
  /-- The address of the frame. -/
  addr : Word
  /-- The length of the frame in words (free, log 37). -/
  words : BitVec 30
deriving DecidableEq, Repr

/-- Why the processor sleeps (R183, R184). -/
inductive SleepCause where
  | onExit  -- SCR.SLEEPONEXIT, on the return to Thread mode
  | wfi
  | wfe     -- waiting for an event
deriving DecidableEq, Repr

/-- Whether the processor executes instructions (R183, R184, R322). -/
inductive Power where
  | running
  | asleep (cause : SleepCause) (deep : Bool)
deriving DecidableEq, Repr

/-- An error while a frame is stacked or unstacked (R240, R241, R247, R248). -/
inductive StackError where
  | bus     -- a bus error
  | access  -- an access violation
deriving DecidableEq, Repr

/-- What one exception entry meets (R311): the errors of its stacking, in the order they are reported, each kind once (R240, R247, R310), whether
the vector table read gets a bus error, and, if so, whether the read of the hard fault's own vector that follows gets one too (R255). -/
structure EntryErrors where
  stack : List StackError
  vector : Bool
  hardFaultVector : Bool
deriving DecidableEq, Repr

/-- The value a read returns, as wide as the access (R100). -/
inductive ReadData where
  | byte (v : Byte)
  | half (v : Half)
  | word (v : Word)
deriving DecidableEq, Repr

/-- An event of the environment or of the processor, the agents beside the program (R301, R305, R306, R324). The instruction an event
speaks of is the one at the state's `pc`. -/
inductive Event where
  /-- The environment applies reset (R380). -/
  | reset
  /-- The AUXFAULT inputs take this level (R264). -/
  | auxfault (level : Word)
  /-- The NMI signal is asserted (R142). -/
  | nmi
  /-- Interrupt line `k` requests exception 16 + k (R306). -/
  | irq (k : Nat)
  /-- The pending state of interrupt `k` is removed by an NVIC register (R305 withdraw, R306). -/
  | irqClear (k : Nat)
  /-- The SysTick timer requests its exception (R144). -/
  | sysTick
  /-- An NVIC register sets the enable and the priority of interrupt `k` (R44, R45). -/
  | nvic (k : Nat) (enable : Bool) (prio : BitVec 4)
  /-- From now on the processor acts on what register `r` holds (R81, R324 e). -/
  | observe (r : SettingReg)
  /-- The processor's mask registers change: what PRIMASK holds back, what BASEPRI and FAULTMASK hold back, and the execution
  priority they impose (R43, R302). -/
  | masks (primask basepriFaultmask : List Nat) (priority : Option Int)
  /-- The processor has come to the instruction at `pc`, with the stack pointer `sp` (R48); it fetches that instruction, which is refused from the block
  (R85). -/
  | core (pc sp : Word)
  /-- The automatic update of CONTROL.FPCA (R123). -/
  | autoFpca (value : Bool)
  /-- The external event of SEVONPEND (R46, R182). -/
  | externalEvent
  /-- An SEV instruction (R46, R182). -/
  | sev
  /-- A WFE instruction (R182). -/
  | wfe
  /-- A WFI instruction (R183). -/
  | wfi
  /-- An SVC instruction (R306). -/
  | svc
  /-- A write of the NVIC's STIR that names interrupt `k`, by privileged or, in Thread mode, unprivileged software (R194, R306, R317). -/
  | stir (priv : Bool) (k : Nat)
  /-- An SDIV or UDIV with divisor 0 (R192, R232). -/
  | divideByZero
  /-- A data access of `size` at `addr`, by a multi-register or doubleword instruction or not (R193, R233). -/
  | dataAccess (multi : Bool) (size : Size) (addr : Word)
  /-- A coprocessor instruction (R234). -/
  | coprocessor
  /-- An instruction that makes illegal use of the EPSR, undefined or not (R236). -/
  | illegalEpsr (undefined : Bool)
  /-- An instruction the processor cannot decode (R237). -/
  | undefinedInstr
  /-- A bus error on a prefetch whose instruction is never issued (R244). -/
  | prefetchError
  /-- The attempt to issue the instruction of `size` at `pc`, whose fetch got a bus error (R244). -/
  | issueError (size : Size)
  /-- A data bus error of a load or store of `size` at `addr`, reported while the instruction is executing (R243); outside the block (R75, R79). -/
  | busError (load : Bool) (size : Size) (addr : Word)
  /-- A store of `size` at `addr` in the default memory map that may use the write buffer, and whether its bus access fails if it does not (R83, R125);
  unaligned, it may trap instead (R193). -/
  | bufferableStore (size : Size) (addr : Word) (fails : Bool)
  /-- The `i`-th buffered store completes, with a bus error or without, when the instruction at `next` was about to execute (R49, R242). -/
  | drain (i : Nat) (fails : Bool) (next : Word)
  /-- A bus error of a store of a word by floating-point lazy state preservation at `addr` (R239); outside the block. -/
  | lazyBusError (addr : Word)
  /-- An access violation of such a store (R246); outside the block. -/
  | lazyViolation (addr : Word)
  /-- A load or store of `size` at `addr`, a location that does not permit it (R249); outside the block (R75, R79). -/
  | dataViolation (size : Size) (addr : Word)
  /-- The fetch of the instruction of `size` at `pc`, a location that does not permit execution (R250). -/
  | fetchViolation (size : Size)
  /-- What the coming exception entries will meet, the next entry first (R311; log 22). -/
  | entryErrors (errors : List EntryErrors)
  /-- The processor takes a pending exception, at an instruction boundary or inside an LDM or STM (R305, R126); the instruction at `next` would have
  executed next: behind an SVC, a WFI or a WFE that was the last to execute, the instruction after it (R313). -/
  | takeException (insideMultiple : Bool) (next : Word)
  /-- The instruction at `pc` loads an EXC_RETURN value that asks for Thread mode or not and is itself valid or not; unstacking
  meets an error or not (R314). -/
  | exceptionReturn (toThread valid : Bool) (unstack : Option StackError)
  /-- An instruction fetch of `size` from `addr` on (R85). -/
  | fetch (addr : Word) (size : Size)
  /-- A multi-register or doubleword access of `words` words from `addr` on (R88). -/
  | multiAccess (addr : Word) (words : Nat)
deriving DecidableEq, Repr

/-- What the machine serves next: the bytes of one access of the program, or one event (log 1). -/
inductive Stimulus where
  | access (bytes : List Byte)
  | event (e : Event)
deriving DecidableEq, Repr

/-- The state: everything the spec gives the block, the shared exception state, what it names of the core, and the model's own fields (INVENTORY.md, State). -/
structure State where
  -- the block's own registers (R20)
  actlr : Actlr
  /-- VTOR.TBLOFF, bits [29:9] of the table offset (R24). -/
  tbloff : BitVec 21
  /-- AIRCR.PRIGROUP (R25). -/
  prigroup : BitVec 3
  scr : Scr
  ccr : Ccr
  pri : Pri
  ena : Enables
  cfsr : Cfsr
  hfsr : Hfsr
  mmfar : Word
  bfar : Word
  afsr : Word
  /-- The system reset request to the outer system (R47). -/
  sysresetreq : Bool
  /-- The fields that the processor acts on (R81, R324 e). -/
  seen : Settings
  -- shared exception state (R41 to R46)
  /-- pending[n], at index n. -/
  pending : Vector Bool 128
  /-- active[n], at index n. -/
  active : Vector Bool 128
  ipsr : BitVec 9
  nvicEnabled : Vector Bool 112
  nvicPrio : Vector (BitVec 4) 112
  /-- The exceptions PRIMASK holds back (R309). -/
  primaskHolds : List Nat
  /-- The exceptions n with maskedByBasepriOrFaultmask(n) (R43). -/
  maskedHolds : List Nat
  /-- The execution priority the mask registers impose (R302). -/
  maskPriority : Option Int
  eventRegister : Bool
  -- what the spec names of the core (R48, R49, R184, R304)
  /-- The PC. That there is one, of 32 bits, is the model's choice (R48; DESIGN CHOICE, log 50). -/
  pc : Word
  /-- The SP. That there is one, of 32 bits, which stacking and the handler both use, is the model's choice (R48, R311; DESIGN CHOICE, log 50). -/
  sp : Word
  /-- CONTROL.FPCA. -/
  fpca : Bool
  /-- Stacked frames, the latest first. -/
  frames : List Frame
  /-- Addresses of the stores in the write buffer, the oldest first. -/
  writeBuffer : List Word
  power : Power
  lockedUp : Bool
  -- inputs
  /-- The AUXFAULT inputs now (R11). -/
  auxfault : Word
  -- the model's own fields
  /-- What the last access returned. -/
  readData : Option ReadData
  /-- What the last core instruction of an event wrote to its destination register. -/
  destWrite : Option Word
  /-- What the coming exception entries will meet. -/
  entryErrors : List EntryErrors
  /-- The last read of the vector table. -/
  vectorFetch : Option VectorFetch
  /-- How many free values were drawn. -/
  drawn : Nat
  params : Config.Params
  /-- The accesses and events still to come. -/
  schedule : List Stimulus
deriving DecidableEq, Repr

/-- Why the machine stops although the spec describes its state. -/
inductive Fault where
  /-- Lock-up: an access or another instruction is at hand and the processor executes none until reset (R304). Raised by `step`.
  Safe: the run goes no further. -/
  | lockUp
deriving DecidableEq, Repr

/-- Why the machine has no next state: the spec gives the operation no meaning. -/
inductive Refusal where
  /-- The instruction has no meaning yet. Raised by `exec`'s arms only. Safe. -/
  | notModelled (mnemonic : String)
  /-- The bytes are no descriptor: a length, a size field or data that R100 and R101 do not have. Raised by `step`. Safe. -/
  | malformedOperation
  /-- The address is in no register of the block (R72). Raised by `step`. Safe. -/
  | notScbOperation
  /-- A size or alignment that the register does not allow (R75, R193). Raised by `step`, and by the events `dataAccess`, `bufferableStore`, `busError`,
  `dataViolation`, `lazyBusError` and `lazyViolation`. Safe. -/
  | unsupportedAccess
  /-- A 1 written in a reserved position under RESERVED_WRITE = refuse (R40), or in bit 23 of ICSR whatever RESERVED_WRITE says (R146). Raised by the
  write rules. Safe. -/
  | reservedBitWritten
  /-- A set-pending bit and its clear-pending bit written as 1 together: "the effect is unpredictable" (R145). Raised by WR.ICSR. Safe. -/
  | unpredictableIcsr
  /-- VECTCLRACTIVE or VECTRESET written as 1: "behavior is unpredictable" (R173). Raised by WR.AIRCR. Safe. -/
  | unpredictableAircr
  /-- DEBUG_VT written as 1: "behavior is unpredictable" (R253). Raised by WR.HFSR. Safe. -/
  | unpredictableHfsr
  /-- An instruction fetch that touches a register of the block (R85, R250). Raised by the events `fetch`, `core`, `issueError` and `fetchViolation`, and
  by `step` where an access or an event is that of an instruction at such a PC. Safe. -/
  | fetchFromScb
  /-- A multi-register or doubleword access that touches a register of the block (R88). Raised by the events `multiAccess` and `dataAccess`. Safe. -/
  | multiAccessToScb
  /-- A single access that is an operation of the block, given as an access of other memory: the schedule must hold its bytes instead (R193, R79, R100).
  Raised by the events `dataAccess`, `bufferableStore`, `busError`, `dataViolation`, `lazyBusError` and `lazyViolation`. Safe. -/
  | accessIsAnOperation
  /-- An instruction while the processor sleeps: no processor produces it (R184). Raised by `step`. Safe. -/
  | processorAsleep
  /-- An interrupt line the machine does not have (R9). Raised by the events of the interrupts. Safe. -/
  | noSuchInterrupt
  /-- An unprivileged write of the STIR while CCR.USERSETMPEND = 0: the STIR's answer is outside the spec (R194). Safe. -/
  | stirDenied
  /-- A bus error on a buffered store while ACTLR.DISDEFWBUF = 1, which R125 excludes. Raised by the event `drain`. Safe. -/
  | drainWhileDisabled
deriving DecidableEq, Repr

/-- The outcome of a step. -/
abbrev Result := Host.Outcome State Fault Refusal

/-- ACTLR after reset (R51). -/
def Actlr.reset : Actlr := ⟨false, false, false, false, false⟩

/-- SCR after reset (R51). -/
def Scr.reset : Scr := ⟨false, false, false⟩

/-- CCR after reset: STKALIGN = 1, everything else 0 (R51). -/
def Ccr.reset : Ccr where
  stkalign := true
  bfhfnmign := false
  div0Trp := false
  unalignTrp := false
  usersetmpend := false
  nonbasethrdena := false

/-- The priority fields after reset (R51). -/
def Pri.reset : Pri := ⟨0#4, 0#4, 0#4, 0#4, 0#4, 0#4⟩

/-- The enable bits after reset (R51). -/
def Enables.reset : Enables := ⟨false, false, false⟩

/-- After reset the processor acts on the reset values (R51, R383). -/
def Settings.reset : Settings := ⟨0#21, 0#3, Scr.reset, Ccr.reset, Pri.reset, Enables.reset⟩

/-- CFSR after reset (R51). -/
def Cfsr.reset : Cfsr where
  divbyzero := false
  unaligned := false
  nocp := false
  invpc := false
  invstate := false
  undefinstr := false
  bfarvalid := false
  lsperr := false
  stkerr := false
  unstkerr := false
  impreciserr := false
  preciserr := false
  ibuserr := false
  mmarvalid := false
  mlsperr := false
  mstkerr := false
  munstkerr := false
  daccviol := false
  iaccviol := false

/-- HFSR after reset (R51). -/
def Hfsr.reset : Hfsr := ⟨false, false, false⟩

/-- The state that a reset leaves when `k` free values were drawn before it (R381). MMFAR, BFAR and AFSR are drawn once and keep
the drawn value until written (R382; DESIGN CHOICE, log 4). The exceptions without a window, the core's registers, the NVIC's,
the masks and the model's own fields: DESIGN CHOICE, logs 17, 19, 21, 34. The boot takes the initial SP and the PC from the first two words of the
table at address 0, in Thread mode (R384; PRESUMED, log 34). -/
def State.resetAt (k : Nat) : State where
  actlr := Actlr.reset
  tbloff := 0#21
  prigroup := 0#3
  scr := Scr.reset
  ccr := Ccr.reset
  pri := Pri.reset
  ena := Enables.reset
  cfsr := Cfsr.reset
  hfsr := Hfsr.reset
  mmfar := Config.drawWord k
  bfar := Config.drawWord (k + 1)
  afsr := Config.drawWord (k + 2)
  sysresetreq := false
  seen := Settings.reset
  pending := Vector.replicate 128 false
  active := Vector.replicate 128 false
  ipsr := 0#9
  nvicEnabled := Vector.replicate 112 false
  nvicPrio := Vector.replicate 112 0#4
  primaskHolds := []
  maskedHolds := []
  maskPriority := none
  eventRegister := false
  pc := Config.vectorWord 0#32 1 k
  sp := Config.vectorWord 0#32 0 k
  fpca := false
  frames := []
  writeBuffer := []
  power := .running
  lockedUp := false
  auxfault := 0#32
  readData := none
  destWrite := none
  entryErrors := []
  vectorFetch := some { base := 0#32, sram := false, exc := 1 }
  drawn := k + 3
  params := Config.defaultParams
  schedule := []

/-- The machine right after reset, with nothing placed in its schedule (R51, R381). -/
def State.reset : State := State.resetAt 0

end Sys2Proof.Machine
end

