-- ==== Sys2Proof/Machine/Flags.lean ====
section
/-! DEFINITION. The status flags: CFSR and HFSR as words, setting the flag of a fault's cause, clearing flags by a write (44_fault_status.md). -/

namespace Sys2Proof.Machine

/-- The causes of the faults with configurable priority: each a flag of CFSR (R301). -/
inductive Cause where
  | divbyzero | unaligned | nocp | invpc | invstate | undefinstr
  | lsperr | stkerr | unstkerr | impreciserr | preciserr | ibuserr
  | mlsperr | mstkerr | munstkerr | daccviol | iaccviol
deriving DecidableEq, Repr

/-- The class of a cause, the number of the exception it raises: 6 usage fault, 5 bus fault, 4 memory management fault (R301). -/
def causeClass : Cause → Nat
  | .divbyzero | .unaligned | .nocp | .invpc | .invstate | .undefinstr => 6
  | .lsperr | .stkerr | .unstkerr | .impreciserr | .preciserr | .ibuserr => 5
  | .mlsperr | .mstkerr | .munstkerr | .daccviol | .iaccviol => 4

/-- The cause is a data bus error of a load or store (R191, R303). LSPERR is not counted as one: a store of lazy state preservation is no store
instruction (DESIGN CHOICE, log 28). -/
def causeIsDataBusError : Cause → Bool
  | .preciserr | .impreciserr => true
  | _ => false

/-- `CFSR[bit] <- 1` for the flag of a cause (R302). -/
def cfsrSet (c : Cause) (f : Cfsr) : Cfsr :=
  match c with
  | .divbyzero => { f with divbyzero := true }
  | .unaligned => { f with unaligned := true }
  | .nocp => { f with nocp := true }
  | .invpc => { f with invpc := true }
  | .invstate => { f with invstate := true }
  | .undefinstr => { f with undefinstr := true }
  | .lsperr => { f with lsperr := true }
  | .stkerr => { f with stkerr := true }
  | .unstkerr => { f with unstkerr := true }
  | .impreciserr => { f with impreciserr := true }
  | .preciserr => { f with preciserr := true }
  | .ibuserr => { f with ibuserr := true }
  | .mlsperr => { f with mlsperr := true }
  | .mstkerr => { f with mstkerr := true }
  | .munstkerr => { f with munstkerr := true }
  | .daccviol => { f with daccviol := true }
  | .iaccviol => { f with iaccviol := true }

/-- CFSR as it reads: UFSR : BFSR : MMFSR (R230, R33 to R35). -/
def cfsrWord (f : Cfsr) : Word :=
  bitAt f.divbyzero 25 ||| bitAt f.unaligned 24 ||| bitAt f.nocp 19 ||| bitAt f.invpc 18 ||| bitAt f.invstate 17
    ||| bitAt f.undefinstr 16
    ||| bitAt f.bfarvalid 15 ||| bitAt f.lsperr 13 ||| bitAt f.stkerr 12 ||| bitAt f.unstkerr 11 ||| bitAt f.impreciserr 10
    ||| bitAt f.preciserr 9 ||| bitAt f.ibuserr 8
    ||| bitAt f.mmarvalid 7 ||| bitAt f.mlsperr 5 ||| bitAt f.mstkerr 4 ||| bitAt f.munstkerr 3 ||| bitAt f.daccviol 1
    ||| bitAt f.iaccviol 0

/-- The nineteen flags of a CFSR word; its reserved positions hold no state (R40). -/
def cfsrOfWord (w : Word) : Cfsr where
  divbyzero := w.getLsbD 25
  unaligned := w.getLsbD 24
  nocp := w.getLsbD 19
  invpc := w.getLsbD 18
  invstate := w.getLsbD 17
  undefinstr := w.getLsbD 16
  bfarvalid := w.getLsbD 15
  lsperr := w.getLsbD 13
  stkerr := w.getLsbD 12
  unstkerr := w.getLsbD 11
  impreciserr := w.getLsbD 10
  preciserr := w.getLsbD 9
  ibuserr := w.getLsbD 8
  mmarvalid := w.getLsbD 7
  mlsperr := w.getLsbD 5
  mstkerr := w.getLsbD 4
  munstkerr := w.getLsbD 3
  daccviol := w.getLsbD 1
  iaccviol := w.getLsbD 0

/-- The defined bits of CFSR (R230). -/
def cfsrDefined : Word := 0x030FBFBB#32

/-- CFSR after a write of `v` under lane mask `m`, in either mode of CFSR_WRITE (R231). -/
def cfsrWritten (mode : Config.CfsrWrite) (f : Cfsr) (v m : Word) : Cfsr :=
  match mode with
  | .rcW1 => cfsrOfWord (cfsrWord f &&& ~~~(v &&& m))
  | .rw => cfsrOfWord ((cfsrWord f &&& ~~~m) ||| (v &&& m &&& cfsrDefined))

/-- HFSR as it reads (R251). -/
def hfsrWord (f : Hfsr) : Word := bitAt f.debugVt 31 ||| bitAt f.forced 30 ||| bitAt f.vecttbl 1

/-- HFSR after a write of `v`: a 1 clears FORCED, VECTTBL (R252). -/
def hfsrWritten (f : Hfsr) (v : Word) : Hfsr :=
  { f with
    forced := f.forced && !v.getLsbD 30
    vecttbl := f.vecttbl && !v.getLsbD 1 }

/-- AFSR after a write of `v`: a 1 clears the bit (R263). An input HIGH at the same time leaves the bit it would have cleared to the
draw `d` and sets the others (R264; DESIGN CHOICE, log 31). -/
def afsrWritten (afsr v auxfault d : Word) : Word :=
  (afsr &&& ~~~v) ||| (auxfault &&& ~~~v) ||| (auxfault &&& v &&& d)

end Sys2Proof.Machine
end

