-- ==== Sys2Proof/Machine/Ops.lean ====
section
/-! DEFINITION. The named operations over the state: the exception arrays, priorities, reporting a fault, taking an exception and
returning from one, the bus answer of an access (10_state.md section 3, 60_exceptions.md). -/

namespace Sys2Proof.Machine

/-! ## Exception numbers and the shared arrays -/

/-- The number of NMI (R41; PRESUMED, log 10). -/
def excNmi : Nat := 2
/-- The number of the hard fault (R41; PRESUMED, log 10). -/
def excHardFault : Nat := 3
/-- The number of the memory management fault (R41). -/
def excMemManage : Nat := 4
/-- The number of the bus fault (R41). -/
def excBusFault : Nat := 5
/-- The number of the usage fault (R41). -/
def excUsageFault : Nat := 6
/-- The number of SVCall (R41). -/
def excSvCall : Nat := 11
/-- The number of the debug monitor (R41; PRESUMED, log 10). -/
def excDebugMonitor : Nat := 12
/-- The number of PendSV (R41). -/
def excPendSv : Nat := 14
/-- The number of SysTick (R41). -/
def excSysTick : Nat := 15

/-- Every exception number the arrays hold: 1 to 127 (R9, R41). Those above 15 + NUM_IRQ are never pending and never active. -/
def excNumbers : List Nat := List.range' 1 127

/-- The exception numbers of the interrupts: 16 to 127 (R9, R41). -/
def irqNumbers : List Nat := List.range' 16 112

/-- `pending[n]` (R41). -/
def State.isPending (s : State) (n : Nat) : Bool := s.pending[n]?.getD false

/-- `active[n]` (R41). -/
def State.isActive (s : State) (n : Nat) : Bool := s.active[n]?.getD false

/-- `pending[n] <- b` (R41). -/
def State.setPending (s : State) (n : Nat) (b : Bool) : State := { s with pending := s.pending.setIfInBounds n b }

/-- `active[n] <- b` (R41). -/
def State.setActive (s : State) (n : Nat) (b : Bool) : State := { s with active := s.active.setIfInBounds n b }

/-- `nvicEnabled(k)` (R44). -/
def State.irqEnabled (s : State) (k : Nat) : Bool := s.nvicEnabled[k]?.getD false

/-- `nvicPrio(k)`, the implemented bits (R45). -/
def State.irqPrio (s : State) (k : Nat) : BitVec 4 := s.nvicPrio[k]?.getD 0#4

/-- The draw counter after `k` more draws (R140, R382; log 3). -/
def State.bump (s : State) (k : Nat) : State := { s with drawn := s.drawn + k }

/-- The processor is in lock-up until reset (R304). -/
def State.lockUp (s : State) : State := { s with lockedUp := true }

/-! ## The fields that the processor acts on -/

/-- The state with the block's fields as the processor acts on them: its decisions are taken on these (R324 e, R81; DESIGN CHOICE, log 20). -/
def State.asSeen (s : State) : State :=
  { s with
    tbloff := s.seen.tbloff
    prigroup := s.seen.prigroup
    scr := s.seen.scr
    ccr := s.seen.ccr
    pri := s.seen.pri
    ena := s.seen.ena }

/-- The fields of register `r` as stored, the others as in `old` (R324 e). -/
def State.takeUp (s : State) (r : SettingReg) (old : Settings) : Settings :=
  match r with
  | .vtor => { old with tbloff := s.tbloff }
  | .aircr => { old with prigroup := s.prigroup }
  | .scr => { old with scr := s.scr }
  | .ccr => { old with ccr := s.ccr }
  | .shpr1 => { old with pri := { old.pri with pri4 := s.pri.pri4, pri5 := s.pri.pri5, pri6 := s.pri.pri6 } }
  | .shpr2 => { old with pri := { old.pri with pri11 := s.pri.pri11 } }
  | .shpr3 => { old with pri := { old.pri with pri14 := s.pri.pri14, pri15 := s.pri.pri15 } }
  | .shcsr => { old with ena := s.ena }

/-- The processor acts on what register `r` holds, from now on (R81; DESIGN CHOICE, log 20). -/
def State.observe (s : State) (r : SettingReg) : State := { s with seen := s.takeUp r s.seen }

/-! ## Enables and priorities -/

/-- `enabled(n)` (R44). -/
def enabled (s : State) (n : Nat) : Bool :=
  if n = excMemManage then s.ena.memfault
  else if n = excBusFault then s.ena.busfault
  else if n = excUsageFault then s.ena.usgfault
  else if 16 ≤ n then s.irqEnabled (n - 16)
  else true

/-- The eight bits of a priority field, of which four are implemented: `PRI_N = PRI_N[7:4] : 0b0000` (R5, R45, R206). -/
def prioByte (level : BitVec 4) : Byte := level ++ 0#4

/-- The configurable priority of exception `n` (R45); free where no field of the spec holds one (log 11). -/
def configPrio (s : State) (n : Nat) : Byte :=
  if n = excMemManage then prioByte s.pri.pri4
  else if n = excBusFault then prioByte s.pri.pri5
  else if n = excUsageFault then prioByte s.pri.pri6
  else if n = excSvCall then prioByte s.pri.pri11
  else if n = excPendSv then prioByte s.pri.pri14
  else if n = excSysTick then prioByte s.pri.pri15
  else if 16 ≤ n then prioByte (s.irqPrio (n - 16))
  else Config.unstatedPrio n

/-- `prio(n)`: −2 for NMI, −1 for the hard fault, else the configurable priority; a lower number is a higher priority (R45, R308). -/
def prio (s : State) (n : Nat) : Int :=
  if n = excNmi then -2
  else if n = excHardFault then -1
  else ((configPrio s n).toNat : Int)

/-- The group priority of `p` under PRIGROUP `g`: `p[7 : g+1]`, no bits for g = 7 (R170). -/
def groupPrio (p : Byte) (g : BitVec 3) : Nat := p.toNat / 2 ^ (g.toNat + 1)

/-- The subpriority of `p` under PRIGROUP `g`: `p[g : 4]` for g = 4 .. 7, no bits for g = 0 .. 3 (R170). -/
def subPrio (p : Byte) (g : BitVec 3) : Nat := p.toNat % 2 ^ (g.toNat + 1) / 2 ^ 4

/-- `p` with its subpriority bits cleared; 0 for g = 7 (R170). -/
def groupValue (p : Byte) (g : BitVec 3) : Byte := p &&& ~~~((1#8 <<< (g.toNat + 1)) - 1#8)

/-- The priority of `n` that preemption compares: the fixed ones are not split (R170, R309). -/
def groupLevel (s : State) (n : Nat) : Int :=
  if n = excNmi then -2
  else if n = excHardFault then -1
  else ((groupValue (configPrio s n) s.prigroup).toNat : Int)

/-- The execution priority when nothing is active and nothing masks: above 255 (R302). -/
def threadPriority : Int := 256

/-- The highest of the active exceptions' priorities, or the priority of Thread mode (R302). -/
def activePriority (s : State) : Int :=
  (excNumbers.filter s.isActive).foldl (fun p n => min p (groupLevel s.asSeen n)) threadPriority

/-- `currentPriority()`: −2 inside the NMI handler, −1 inside the hard fault handler and under FAULTMASK, and otherwise what the
active exceptions and the masks give (R302; DEDUCED, log 18). -/
def currentPriority (s : State) : Int :=
  match s.maskPriority with
  | none => activePriority s
  | some p => min p (activePriority s)

/-- `maskedByBasepriOrFaultmask(n)` (R43). -/
def maskedByBasepriOrFaultmask (s : State) (n : Nat) : Bool := s.maskedHolds.contains n

/-- `masked(n)`: PRIMASK, BASEPRI and FAULTMASK together (R309). -/
def masked (s : State) (n : Nat) : Bool := maskedByBasepriOrFaultmask s n || s.primaskHolds.contains n

/-- The member with the numerically lowest priority, of equal ones the first (R148, R308; PRESUMED, log 13). -/
def highest (p : Nat → Int) : List Nat → Option Nat
  | [] => none
  | n :: ns =>
    match highest p ns with
    | none => some n
    | some m => if p m < p n then some m else some n

/-- The exceptions that VECTPENDING chooses among: PRIMASK is not consulted (R148). -/
def vectCandidates (s : State) : List Nat :=
  excNumbers.filter fun n => s.isPending n && enabled s n && !maskedByBasepriOrFaultmask s n

/-- `canTake(n)`, on the enables, priorities and PRIGROUP that the processor acts on (R302, R324 e). -/
def canTake (s : State) (n : Nat) : Bool :=
  enabled s.asSeen n && decide (groupLevel s.asSeen n < currentPriority s) && !maskedByBasepriOrFaultmask s n

/-- `mayPreempt(n)`, on the enables, priorities and PRIGROUP that the processor acts on (R309, R324 e). -/
def mayPreempt (s : State) (n : Nat) : Bool :=
  s.isPending n && enabled s.asSeen n && !masked s n && decide (groupLevel s.asSeen n < currentPriority s)

/-- The exception the processor takes, if one may preempt now: the highest-priority pending enabled exception that nothing masks (R305, R308, R309). -/
def nextException (s : State) : Option Nat :=
  match highest (prio s.asSeen) (excNumbers.filter fun n => s.isPending n && enabled s.asSeen n && !masked s n) with
  | none => none
  | some n => if mayPreempt s n then some n else none

/-! ## Events and requests -/

/-- An event: it is registered, and wakes a processor that waits for one (R46, R182). -/
def signalEvent (s : State) : State :=
  { s with
    eventRegister := true
    power := match s.power with
      | .asleep .wfe _ => .running
      | p => p }

/-- A request of exception `n`: `pending[n] <- true`; an interrupt that enters the pending state is an event under SEVONPEND (R305, R182). -/
def requestException (n : Nat) (s : State) : State :=
  let t := if 16 ≤ n ∧ s.isPending n = false ∧ s.seen.scr.sevonpend = true then signalEvent s else s
  t.setPending n true

/-! ## Taking an exception -/

/-- The address the frame is placed at, from the SP and the frame's length: a multiple of 8 under STKALIGN, else of 4 (R190). -/
def frameAddr (s : State) (words : BitVec 30) : Word :=
  if s.seen.ccr.stkalign then (s.sp - fieldAt words 2) &&& 0xFFFFFFF8#32 else (s.sp - fieldAt words 2) &&& 0xFFFFFFFC#32

/-- Stacking: the frame holds the return address and the number of the preempted exception, bit 9 of its PSR says whether the SP was
moved to be 8-byte aligned, and the SP is adjusted (R311 a to c, R190). -/
def stackFrame (s : State) : State :=
  let words := Config.frameWords s.drawn
  let addr := frameAddr s words
  let frame : Frame :=
    { exc := s.ipsr
      pc := s.pc
      align := s.seen.ccr.stkalign && addr != s.sp - fieldAt words 2
      addr := addr
      words := words }
  { s with frames := frame :: s.frames, sp := addr, drawn := s.drawn + 1 }

/-- A stacking error: every word of the frame on the stack is unspecified (R240, R247). -/
def spoilFrame (s : State) : State :=
  match s.frames with
  | [] => s
  | f :: fs =>
    { s with
      frames :=
        { f with
          exc := (Config.drawWord s.drawn).setWidth 9
          pc := Config.drawWord (s.drawn + 1)
          align := Config.drawBit (s.drawn + 2) } :: fs
      drawn := s.drawn + 3 }

/-- The byte address where the vector table starts, as the processor acts on VTOR: `TBLOFF << 9` (R86, R157). -/
def vectorTableBase (s : State) : Word := fieldAt s.seen.tbloff 9

/-- The vector table lies in the SRAM region, not in the Code region: bit 29 of the register (R86, R159). -/
def vectorTableInSram (s : State) : Bool := s.seen.tbloff.getLsbD 20

/-- The read of the vector of `n` from the table at VTOR (R311 d, R86, R157), answered or not. -/
def fetchVector (n : Nat) (s : State) : State :=
  { s with vectorFetch := some { base := vectorTableBase s, sram := vectorTableInSram s, exc := n } }

/-- The handler of `n` is entered: its vector is read from the table at VTOR, pending cleared, active set, IPSR its number, the PC at the address
read, a word that is outside the spec (R305, R311 d and e, R157; DESIGN CHOICE, log 21). A sleeping processor wakes (R182). -/
def activate (n : Nat) (s : State) : State :=
  { s with
    pending := (s.setPending n false).pending
    active := (s.setActive n true).active
    ipsr := BitVec.ofNat 9 n
    vectorFetch := (fetchVector n s).vectorFetch
    pc := Config.vectorWord (vectorTableBase s) n s.drawn
    drawn := s.drawn + 1
    power := .running }

/-- A bus error on the read of the vector of `n`: VECTTBL, and the hard fault handler is entered instead, with the frame that was stacked for `n`
(R255). Where the hard fault cannot be entered, lock-up: at priority −1 or −2, where `n` is the hard fault, and where the read of the hard
fault's vector that follows, `again`, gets a bus error too (R304; DEDUCED, log 23). -/
def vectorError (again : Bool) (n : Nat) (s : State) : State :=
  let t := fetchVector n { s with hfsr := { s.hfsr with vecttbl := true } }
  if currentPriority s ≤ -1 ∨ n = excHardFault then t.lockUp
  else if again then (fetchVector excHardFault t).lockUp
  else activate excHardFault t

/-- The address argument of `ReportFault` (R302). -/
inductive FaultAddr where
  | none
  | known (a : Word)
  | unspecified (a : Word)
deriving DecidableEq, Repr

/-- An address recorded in MMFAR leaves BFAR and BFARVALID unchanged, or BFAR drawn and BFARVALID cleared: a draw (R267). -/
def crossBfar (s : State) : State :=
  if Config.drawBit s.drawn then s.bump 2
  else { s with bfar := Config.drawWord (s.drawn + 1), cfsr := { s.cfsr with bfarvalid := false }, drawn := s.drawn + 2 }

/-- The mirror image of `crossBfar` (R267). -/
def crossMmfar (s : State) : State :=
  if Config.drawBit s.drawn then s.bump 2
  else { s with mmfar := Config.drawWord (s.drawn + 1), cfsr := { s.cfsr with mmarvalid := false }, drawn := s.drawn + 2 }

/-- The address register and VALID bit of class `n` are written, with the effect on the other class (R302, R267). -/
def recordAddr (n : Nat) (a : Word) (s : State) : State :=
  if n = excMemManage then crossBfar { s with mmfar := a, cfsr := { s.cfsr with mmarvalid := true } }
  else if n = excBusFault then crossMmfar { s with bfar := a, cfsr := { s.cfsr with bfarvalid := true } }
  else s

/-- The record that a fault leaves: its flag, and its address where one is recorded; for an unspecified one a draw decides (R302). -/
def recordFault (c : Cause) (a : FaultAddr) (s : State) : State :=
  let t := { s with cfsr := cfsrSet c s.cfsr }
  match a with
  | .none => t
  | .known x => recordAddr (causeClass c) x t
  | .unspecified x => if Config.drawBit t.drawn then recordAddr (causeClass c) x (t.bump 1) else t.bump 1

/-- `Escalate(n)` (R303), with `ent` the entry to a handler. -/
def escalateWith (ent : Nat → State → State) (c : Cause) (s : State) : State :=
  if currentPriority s ≤ -1 then
    if causeIsDataBusError c && s.seen.ccr.bfhfnmign then s else s.lockUp
  else ent excHardFault ({ s with hfsr := { s.hfsr with forced := true } }.setPending excHardFault true)

/-- `ReportFault(n, bit, addr)` (R302), with `ent` the entry to a handler. In lock-up nothing is recorded (R304). -/
def reportWith (ent : Nat → State → State) (c : Cause) (a : FaultAddr) (s : State) : State :=
  if s.lockedUp then s
  else
    let t := recordFault c a s
    if canTake t (causeClass c) then ent (causeClass c) (t.setPending (causeClass c) true)
    else escalateWith ent c t

/-- The cause that an error while stacking sets (R240, R247). -/
def stackingCause : StackError → Cause
  | .bus => .stkerr
  | .access => .mstkerr

/-- The cause that an error while unstacking sets (R241, R248). -/
def unstackingCause : StackError → Cause
  | .bus => .unstkerr
  | .access => .munstkerr

/-- The stacking of an entry (R311 a to c): none where the entry is chained to a failed return (R241, R248); with an error the SP is still adjusted
and the frame is unspecified (R240, R247). -/
def stackState (chained : Bool) (errors : List StackError) (s : State) : State :=
  if chained then s else if errors.isEmpty then stackFrame s else spoilFrame (stackFrame s)

/-- The stacking errors of one entry, each kind once: "one or more bus faults" set one flag (R240, R247); none where nothing is stacked. -/
def stackingReports (chained : Bool) (errors : List StackError) : List StackError := if chained then [] else errors.eraseDups

/-- The vector read of an entry and what follows it (R311 d and e, R255). -/
def activateOrFail (e : EntryErrors) (n : Nat) (s : State) : State :=
  if e.vector then vectorError e.hardFaultVector n s else activate n s

/-- TAKING EXCEPTION `n` (R311, R305): stack the state (unless the entry is chained to a failed return, R241), read the vector, activate the handler.
Every entry consumes the first of the state's `entryErrors`, which says what goes wrong in it; a stacking error is reported once the handler
is active, with a stacked PC that is not stated, and the entry of that report consumes the next (R240, R247, R313; DESIGN CHOICE, log 22).
Where the vector read locks the processor up, a stacking error of the same entry is never reported: its flag stays as it was (R34, R35, R304;
DESIGN CHOICE, log 22).
`fuel` bounds the entries inside each other: as many as there are `entryErrors`. -/
def enter (fuel : Nat) (chained : Bool) (n : Nat) (s : State) : State :=
  match fuel with
  | 0 => activate n (stackState chained [] s)
  | k + 1 =>
    match s.entryErrors with
    | [] => activate n (stackState chained [] s)
    | e :: rest =>
      (stackingReports chained e.stack).foldl (fun t c => reportWith (enter k false) (stackingCause c) .none t)
        (activateOrFail e n (stackState chained e.stack { s with entryErrors := rest }))

/-- Taking exception `n` with what the environment has set for the coming entries (R311). -/
def takeException (n : Nat) (s : State) : State := enter s.entryErrors.length false n s

/-- Entering the handler of `n` chained to a failed return: "does not performed a new save" (R241, R248). -/
def chainException (n : Nat) (s : State) : State := enter s.entryErrors.length true n s

/-- `ReportFault` as the fault rules call it (R302). -/
def reportFault (c : Cause) (a : FaultAddr) (s : State) : State := reportWith takeException c a s

/-! ## The causes that need more than one line -/

/-- A data bus error that a handler at priority −1 or −2 ignores (R191): execution goes on; whether BFSR and BFAR record it is
BFHFNMIGN_RECORDS (R13). -/
def ignoredBusError (a : Word) (s : State) : State :=
  match s.params.ignoredRecords with
  | .none => s
  | .status => recordFault .preciserr (.known a) s
  | .drawn => if Config.drawBit s.drawn then recordFault .preciserr (.known a) (s.bump 1) else s.bump 1

/-- What an ignored load writes to its destination: any value (R191). -/
def ignoredLoad (load : Bool) (s : State) : State :=
  if load then { s with destWrite := some (Config.drawWord s.drawn), drawn := s.drawn + 1 } else s

/-- A precise data bus error of a load or store at `a` (R243, R261), ignored by a handler at priority −1 or −2 under BFHFNMIGN (R191). -/
def preciseBusError (load : Bool) (a : Word) (s : State) : State :=
  if currentPriority s ≤ -1 ∧ s.seen.ccr.bfhfnmign = true then ignoredLoad load (ignoredBusError a s)
  else reportFault .preciserr (.known a) s

/-- An imprecise data bus error: pending if the bus fault is enabled, whatever the priority; else escalated, with the instruction at `next` about to
execute (R242, R313). -/
def impreciseBusError (next : Word) (s : State) : State :=
  let t := recordFault .impreciserr .none s
  if enabled t.asSeen excBusFault then t.setPending excBusFault true else escalateWith takeException .impreciserr { t with pc := next }

/-- The content of MMFAR for an access of `size` at `a` that violates: `a` if aligned, else any address of the access (R258). -/
def violationAddr (size : Size) (a : Word) (s : State) : Word :=
  if a.toNat % size.bytes = 0 then a else a + BitVec.ofNat 32 ((Config.drawWord s.drawn).toNat % size.bytes)

/-- A load or store of `size` at `a` that the location does not permit (R249, R258). -/
def dataViolation (size : Size) (a : Word) (s : State) : State :=
  reportFault .daccviol (.known (violationAddr size a s)) (s.bump 1)

/-! ## Returning from an exception -/

/-- No exception is active (R184, R195). -/
def noneActive (s : State) : Bool := excNumbers.all fun n => !s.isActive n

/-- The checks of a return that the spec gives or that the model makes (R314 a, R195, R216; DESIGN CHOICE, log 24): the value is valid; a
handler returns, and it is active; the return to Thread mode leaves no exception active, or NONBASETHRDENA allows it; the return to a
handler finds that handler active. -/
def returnLegal (toThread valid : Bool) (f : Frame) (s : State) : Bool :=
  let t := s.setActive s.ipsr.toNat false
  valid && s.ipsr != 0#9 && s.isActive s.ipsr.toNat &&
    (if toThread then s.seen.ccr.nonbasethrdena || noneActive t else f.exc != 0#9 && t.isActive f.exc.toNat)

/-- The SP that the return restores: past the frame, and past the 4 bytes that bit 9 of the stacked PSR records (R190, R314 b). A return unstacks the
newest frame at the address where it was stacked, whatever the SP has been set to since (DESIGN CHOICE, log 37). -/
def spAfterReturn (f : Frame) : Word := f.addr + fieldAt f.words 2 + (if f.align then 4#32 else 0#32)

/-- The end of a return whose unstacking succeeds: the frame is popped, IPSR is the preempted exception's number or 0, and a return to Thread
mode that leaves no exception active sleeps under SLEEPONEXIT (R314 b to e, R305, R184, R183). The returning exception is no longer active in `s`. -/
def resume (toThread : Bool) (f : Frame) (fs : List Frame) (s : State) : State :=
  { s with
    frames := fs
    sp := spAfterReturn f
    pc := f.pc
    ipsr := if toThread then 0#9 else f.exc
    power :=
      if toThread && s.seen.scr.sleeponexit && noneActive s then .asleep .onExit s.seen.scr.sleepdeep else .running }

/-- RETURNING FROM AN EXCEPTION (R314): an illegal one is the usage fault INVPC, and so is one with no frame on the stack, an invalid context (R235;
DESIGN CHOICE, log 24); an error while unstacking is chained to the fault's handler, the frame still there and the SP not adjusted
(R241, R248; DEDUCED, log 25), and one unstacking meets a bus error or an access violation, not both (DESIGN CHOICE, log 25). -/
def exceptionReturn (toThread valid : Bool) (unstack : Option StackError) (s : State) : State :=
  match s.frames with
  | [] => reportFault .invpc .none s
  | f :: fs =>
    if returnLegal toThread valid f s then
      let t := s.setActive s.ipsr.toNat false
      match unstack with
      | none => resume toThread f fs t
      | some e => reportWith chainException (unstackingCause e) .none t
    else reportFault .invpc .none s

/-! ## The answer of an access -/

/-- An unprivileged access to the block: no data, no register read or written, and a bus fault to the instruction that made it, reported as a
precise data bus error at the address (R79, R301 last row; PRESUMED, log 5). -/
def unprivilegedAccess (load : Bool) (a : Word) (s : State) : Result :=
  .next (preciseBusError load a { s with readData := none })

/-- A read of the block at `a`: privileged, it returns `value s` and changes nothing else (R77, R79); else it faults. -/
def readAccess (priv : Bool) (a : Word) (value : State → ReadData) (s : State) : Result :=
  if priv then .next { s with readData := some (value s) } else unprivilegedAccess true a s

/-- A write of the block at `a`: privileged, the register's write rule acts; else it faults (R79). A write returns no data. -/
def writeAccess (priv : Bool) (a : Word) (rule : State → Result) (s : State) : Result :=
  if priv then rule { s with readData := none } else unprivilegedAccess false a s

/-- The check of the reserved positions of a written word (R40): a 1 there is refused, or dropped with the rest of the write performed,
as RESERVED_WRITE says (R13; DESIGN CHOICE, log 6). -/
def guardReserved (reserved v : Word) (rule : State → Result) (s : State) : Result :=
  match s.params.reservedWrite with
  | .refuse => if hasBits v reserved then .refused .reservedBitWritten else rule s
  | .ignore => rule s

end Sys2Proof.Machine
end

