-- ==== Sys2Proof/Machine/ActlrCpuid.lean ====
section
/-! DEFINITION. ACTLR and CPUID (40_actlr_cpuid.md). -/

namespace Sys2Proof.Machine

/-- ACTLR as it reads (R120). DISOOFP, DISFOLD change timing only (R122, R124). -/
def actlrValue (s : State) : Word :=
  bitAt s.actlr.disoofp 9 ||| bitAt s.actlr.disfpca 8 ||| bitAt s.actlr.disfold 2 ||| bitAt s.actlr.disdefwbuf 1
    ||| bitAt s.actlr.dismcycint 0

/-- The write rule of ACTLR (R121); DISFPCA is written as given, though software should write 0 or the old value (R123). -/
def writeActlr (v : Word) : State → Result :=
  guardReserved 0xFFFFFCF8#32 v fun s =>
    .next { s with
      actlr :=
        { disoofp := v.getLsbD 9
          disfpca := v.getLsbD 8
          disfold := v.getLsbD 2
          disdefwbuf := v.getLsbD 1
          dismcycint := v.getLsbD 0 } }

/-- CPUID as it reads: constant (R127). -/
def cpuidValue (_ : State) : Word := Config.cpuidValue

/-- The write rule of CPUID: no effect (R128; DESIGN CHOICE, log 8). -/
def writeCpuid (_ : Word) (s : State) : Result := .next s

/-- `RD.ACTLR` (R120). -/
def execRdActlr (priv : Bool) (s : State) : Result :=
  readAccess priv 0xE000E008#32 (fun t => .word (actlrValue t)) s

/-- `WR.ACTLR` (R121). -/
def execWrActlr (priv : Bool) (v : Word) (s : State) : Result :=
  writeAccess priv 0xE000E008#32 (writeActlr v) s

/-- `RD.CPUID` (R127). -/
def execRdCpuid (priv : Bool) (s : State) : Result :=
  readAccess priv 0xE000ED00#32 (fun t => .word (cpuidValue t)) s

/-- `WR.CPUID` (R128). -/
def execWrCpuid (priv : Bool) (v : Word) (s : State) : Result :=
  writeAccess priv 0xE000ED00#32 (writeCpuid v) s

end Sys2Proof.Machine
end

