-- ==== Sys2Proof/Machine/FaultStatus.lean ====
section
/-! DEFINITION. The fault status and fault address registers: CFSR and its byte and halfword forms, HFSR, MMFAR, BFAR, AFSR
(44_fault_status.md). -/

namespace Sys2Proof.Machine

/-- CFSR as it reads (R230). -/
def cfsrValue (s : State) : Word := cfsrWord s.cfsr

/-- The write rule of CFSR, for the shifted value `v` and the lane mask `m`, in the mode CFSR_WRITE of the machine (R231, R12). -/
def writeCfsr (v m : Word) : State → Result :=
  guardReserved 0xFCF04044#32 (v &&& m) fun s =>
    .next { s with cfsr := cfsrWritten s.params.cfsrWrite s.cfsr v m }

/-- HFSR as it reads (R251). -/
def hfsrValue (s : State) : Word := hfsrWord s.hfsr

/-- The write rule of HFSR: a 1 clears; a 1 to DEBUG_VT is unpredictable (R252, R253). -/
def writeHfsr (v : Word) : State → Result :=
  guardReserved 0x3FFFFFFD#32 v fun s =>
    if v.getLsbD 31 then .refused .unpredictableHfsr else .next { s with hfsr := hfsrWritten s.hfsr v }

/-- MMFAR as it reads (R256). -/
def mmfarValue (s : State) : Word := s.mmfar

/-- The write rule of MMFAR; MMARVALID is not changed (R257). -/
def writeMmfar (v : Word) (s : State) : Result := .next { s with mmfar := v }

/-- BFAR as it reads (R259). -/
def bfarValue (s : State) : Word := s.bfar

/-- The write rule of BFAR; BFARVALID is not changed (R260). -/
def writeBfar (v : Word) (s : State) : Result := .next { s with bfar := v }

/-- AFSR as it reads (R262). -/
def afsrValue (s : State) : Word := s.afsr

/-- The write rule of AFSR; a bit whose AUXFAULT input is HIGH at the write is a draw (R263). -/
def writeAfsr (v : Word) (s : State) : Result :=
  .next { s with
    afsr := afsrWritten s.afsr v s.auxfault (Config.drawWord s.drawn)
    drawn := s.drawn + 1 }

/-- `RD.CFSR` (R230). -/
def execRdCfsr (priv : Bool) (s : State) : Result :=
  readAccess priv 0xE000ED28#32 (fun t => .word (cfsrValue t)) s

/-- `WR.CFSR` (R231). -/
def execWrCfsr (priv : Bool) (v : Word) (s : State) : Result :=
  writeAccess priv 0xE000ED28#32 (writeCfsr v wordMask) s

/-- `RD.HFSR` (R251). -/
def execRdHfsr (priv : Bool) (s : State) : Result :=
  readAccess priv 0xE000ED2C#32 (fun t => .word (hfsrValue t)) s

/-- `WR.HFSR` (R252). -/
def execWrHfsr (priv : Bool) (v : Word) (s : State) : Result :=
  writeAccess priv 0xE000ED2C#32 (writeHfsr v) s

/-- `RD.MMFAR` (R256). -/
def execRdMmfar (priv : Bool) (s : State) : Result :=
  readAccess priv 0xE000ED34#32 (fun t => .word (mmfarValue t)) s

/-- `WR.MMFAR` (R257). -/
def execWrMmfar (priv : Bool) (v : Word) (s : State) : Result :=
  writeAccess priv 0xE000ED34#32 (writeMmfar v) s

/-- `RD.BFAR` (R259). -/
def execRdBfar (priv : Bool) (s : State) : Result :=
  readAccess priv 0xE000ED38#32 (fun t => .word (bfarValue t)) s

/-- `WR.BFAR` (R260). -/
def execWrBfar (priv : Bool) (v : Word) (s : State) : Result :=
  writeAccess priv 0xE000ED38#32 (writeBfar v) s

/-- `RD.AFSR` (R262). -/
def execRdAfsr (priv : Bool) (s : State) : Result :=
  readAccess priv 0xE000ED3C#32 (fun t => .word (afsrValue t)) s

/-- `WR.AFSR` (R263). -/
def execWrAfsr (priv : Bool) (v : Word) (s : State) : Result :=
  writeAccess priv 0xE000ED3C#32 (writeAfsr v) s

/-- `RDB.MMFSR`: bits 7:0 of `RD.CFSR` (R266, R73). -/
def execRdbMmfsr (priv : Bool) (s : State) : Result :=
  readAccess priv 0xE000ED28#32 (fun t => .byte (laneOfWord (cfsrValue t) 0)) s

/-- `WRB.MMFSR`: `WR.CFSR` through the lane of bits 7:0 (R266, R73). -/
def execWrbMmfsr (priv : Bool) (v : Byte) (s : State) : Result :=
  writeAccess priv 0xE000ED28#32 (writeCfsr (byteLane v 0) (byteMask 0)) s

/-- `RDB.BFSR`: bits 15:8 of `RD.CFSR` (R266, R73). -/
def execRdbBfsr (priv : Bool) (s : State) : Result :=
  readAccess priv 0xE000ED29#32 (fun t => .byte (laneOfWord (cfsrValue t) 1)) s

/-- `WRB.BFSR`: `WR.CFSR` through the lane of bits 15:8 (R266, R73). -/
def execWrbBfsr (priv : Bool) (v : Byte) (s : State) : Result :=
  writeAccess priv 0xE000ED29#32 (writeCfsr (byteLane v 1) (byteMask 1)) s

/-- `RDB.UFSR_LO`: bits 23:16 of `RD.CFSR` (R266, R73). -/
def execRdbUfsrLo (priv : Bool) (s : State) : Result :=
  readAccess priv 0xE000ED2A#32 (fun t => .byte (laneOfWord (cfsrValue t) 2)) s

/-- `WRB.UFSR_LO`: `WR.CFSR` through the lane of bits 23:16 (R266, R73). -/
def execWrbUfsrLo (priv : Bool) (v : Byte) (s : State) : Result :=
  writeAccess priv 0xE000ED2A#32 (writeCfsr (byteLane v 2) (byteMask 2)) s

/-- `RDB.UFSR_HI`: bits 31:24 of `RD.CFSR` (R266, R73). -/
def execRdbUfsrHi (priv : Bool) (s : State) : Result :=
  readAccess priv 0xE000ED2B#32 (fun t => .byte (laneOfWord (cfsrValue t) 3)) s

/-- `WRB.UFSR_HI`: `WR.CFSR` through the lane of bits 31:24 (R266, R73). -/
def execWrbUfsrHi (priv : Bool) (v : Byte) (s : State) : Result :=
  writeAccess priv 0xE000ED2B#32 (writeCfsr (byteLane v 3) (byteMask 3)) s

/-- `RDH.CFSR_LO`: bits 15:0 of `RD.CFSR` (R266, R73). -/
def execRdhCfsrLo (priv : Bool) (s : State) : Result :=
  readAccess priv 0xE000ED28#32 (fun t => .half (halfOfWord (cfsrValue t) 0)) s

/-- `WRH.CFSR_LO`: `WR.CFSR` through the lane of bits 15:0 (R266, R73). -/
def execWrhCfsrLo (priv : Bool) (v : Half) (s : State) : Result :=
  writeAccess priv 0xE000ED28#32 (writeCfsr (halfLane v 0) (halfMask 0)) s

/-- `RDH.UFSR`: bits 31:16 of `RD.CFSR` (R266, R73). -/
def execRdhUfsr (priv : Bool) (s : State) : Result :=
  readAccess priv 0xE000ED2A#32 (fun t => .half (halfOfWord (cfsrValue t) 2)) s

/-- `WRH.UFSR`: `WR.CFSR` through the lane of bits 31:16 (R266, R73). -/
def execWrhUfsr (priv : Bool) (v : Half) (s : State) : Result :=
  writeAccess priv 0xE000ED2A#32 (writeCfsr (halfLane v 2) (halfMask 2)) s

end Sys2Proof.Machine
end

