-- ==== Sys2Proof/Machine/IcsrVtorAircr.lean ====
section
/-! DEFINITION. ICSR, VTOR and AIRCR (41_icsr_vtor_aircr.md). -/

namespace Sys2Proof.Machine

/-- ISRPENDING: some interrupt is pending, enabled or not (R147; DESIGN CHOICE, log 15). -/
def isrPending (s : State) : Bool := irqNumbers.any s.isPending

/-- VECTPENDING: the number of the highest-priority pending enabled exception, 0 if there is none (R148). -/
def vectPending (s : State) : BitVec 7 :=
  match highest (prio s) (vectCandidates s) with
  | none => 0#7
  | some n => BitVec.ofNat 7 n

/-- The executing exception is the only active one: `A = { IPSR }` (R149). -/
def onlyExecutingActive (s : State) : Bool :=
  s.isActive s.ipsr.toNat && excNumbers.all fun n => !s.isActive n || decide (n = s.ipsr.toNat)

/-- RETTOBASE: computed in Handler mode, in Thread mode the bit of draw `d` (R149; DESIGN CHOICE, log 14). -/
def retToBase (s : State) (d : Nat) : Bool :=
  if s.ipsr = 0#9 then Config.drawBit d else onlyExecutingActive s

/-- ICSR as it reads; bits 27, 25 and, in Thread mode, 11 are draws (R140). Bit 23 reads 0: the processor is never in Debug (R146). -/
def icsrValue (s : State) : Word :=
  bitAt (s.isPending excNmi) 31 ||| bitAt (s.isPending excPendSv) 28 ||| bitAt (Config.drawBit s.drawn) 27
    ||| bitAt (s.isPending excSysTick) 26 ||| bitAt (Config.drawBit (s.drawn + 1)) 25
    ||| bitAt (isrPending s) 22 ||| fieldAt (vectPending s) 12 ||| bitAt (retToBase s (s.drawn + 2)) 11
    ||| fieldAt s.ipsr 0

/-- A set-pending bit and its clear-pending bit written as 1 together (R145). -/
def icsrContradicts (v : Word) : Bool := (v.getLsbD 28 && v.getLsbD 27) || (v.getLsbD 26 && v.getLsbD 25)

/-- What the trigger bits of a written ICSR word do; a 0 has no effect, the read-only positions are ignored (R141, R142 to R144, R150;
DESIGN CHOICE, log 8). -/
def icsrTriggers (v : Word) (s : State) : State :=
  let s1 := if v.getLsbD 31 then s.setPending excNmi true else s
  let s2 := if v.getLsbD 28 then s1.setPending excPendSv true else s1
  let s3 := if v.getLsbD 27 then s2.setPending excPendSv false else s2
  let s4 := if v.getLsbD 26 then s3.setPending excSysTick true else s3
  if v.getLsbD 25 then s4.setPending excSysTick false else s4

/-- The write rule of ICSR (R141). A 1 in bit 23, the Debug bit, is refused whatever RESERVED_WRITE says (R146, D17 and U8 of
93_implementation_defined.md); a 1 in another reserved position is refused or dropped as it says (log 6). -/
def writeIcsr (v : Word) (s : State) : Result :=
  if v.getLsbD 23 then .refused .reservedBitWritten
  else guardReserved 0x61B80600#32 v (fun t => if icsrContradicts v then .refused .unpredictableIcsr else .next (icsrTriggers v t)) s

/-- The CMSIS IRQ number of an exception number: 16 less; negative for a system exception (R151). -/
def cmsisIrq (n : Nat) : Int := (n : Int) - 16

/-- VTOR as it reads (R155). -/
def vtorValue (s : State) : Word := fieldAt s.tbloff 9

/-- The write rule of VTOR (R156). -/
def writeVtor (v : Word) : State → Result :=
  guardReserved 0xC00001FF#32 v fun s => .next { s with tbloff := v.extractLsb' 9 21 }

/-- AIRCR as it reads: the key constant, ENDIANESS 0, PRIGROUP, and 0 in the trigger bits (R165, R167, R168). -/
def aircrValue (s : State) : Word := fieldAt Config.aircrReadKey 16 ||| fieldAt s.prigroup 8

/-- What a keyed write does past the check of the reserved bits (R166, R172, R173). -/
def aircrKeyed (v : Word) (s : State) : Result :=
  if v.getLsbD 1 || v.getLsbD 0 then .refused .unpredictableAircr
  else .next { s with prigroup := v.extractLsb' 8 3, sysresetreq := s.sysresetreq || v.getLsbD 2 }

/-- The write rule of AIRCR: without the key the whole write is ignored, and nothing else of it is examined (R166). -/
def writeAircr (v : Word) (s : State) : Result :=
  if v.extractLsb' 16 16 = Config.aircrWriteKey then guardReserved 0x000078F8#32 v (aircrKeyed v) s else .next s

/-- `RD.ICSR` (R140): every read draws its unknown bits afresh. -/
def execRdIcsr (priv : Bool) (s : State) : Result :=
  if priv then .next { s with readData := some (.word (icsrValue s)), drawn := s.drawn + 3 }
  else unprivilegedAccess true 0xE000ED04#32 s

/-- `WR.ICSR` (R141). -/
def execWrIcsr (priv : Bool) (v : Word) (s : State) : Result :=
  writeAccess priv 0xE000ED04#32 (writeIcsr v) s

/-- `RD.VTOR` (R155). -/
def execRdVtor (priv : Bool) (s : State) : Result :=
  readAccess priv 0xE000ED08#32 (fun t => .word (vtorValue t)) s

/-- `WR.VTOR` (R156). -/
def execWrVtor (priv : Bool) (v : Word) (s : State) : Result :=
  writeAccess priv 0xE000ED08#32 (writeVtor v) s

/-- `RD.AIRCR` (R165). -/
def execRdAircr (priv : Bool) (s : State) : Result :=
  readAccess priv 0xE000ED0C#32 (fun t => .word (aircrValue t)) s

/-- `WR.AIRCR` (R166). -/
def execWrAircr (priv : Bool) (v : Word) (s : State) : Result :=
  writeAccess priv 0xE000ED0C#32 (writeAircr v) s

end Sys2Proof.Machine
end

