-- ==== Sys2Proof/Machine/ScrCcr.lean ====
section
/-! DEFINITION. SCR and CCR (42_scr_ccr.md). -/

namespace Sys2Proof.Machine

/-- SCR as it reads (R180). -/
def scrValue (s : State) : Word :=
  bitAt s.scr.sevonpend 4 ||| bitAt s.scr.sleepdeep 2 ||| bitAt s.scr.sleeponexit 1

/-- The write rule of SCR (R181). -/
def writeScr (v : Word) : State → Result :=
  guardReserved 0xFFFFFFE9#32 v fun s =>
    .next { s with
      scr :=
        { sevonpend := v.getLsbD 4
          sleepdeep := v.getLsbD 2
          sleeponexit := v.getLsbD 1 } }

/-- CCR as it reads (R188). -/
def ccrValue (s : State) : Word :=
  bitAt s.ccr.stkalign 9 ||| bitAt s.ccr.bfhfnmign 8 ||| bitAt s.ccr.div0Trp 4 ||| bitAt s.ccr.unalignTrp 3
    ||| bitAt s.ccr.usersetmpend 1 ||| bitAt s.ccr.nonbasethrdena 0

/-- The write rule of CCR (R189). -/
def writeCcr (v : Word) : State → Result :=
  guardReserved 0xFFFFFCE4#32 v fun s =>
    .next { s with
      ccr :=
        { stkalign := v.getLsbD 9
          bfhfnmign := v.getLsbD 8
          div0Trp := v.getLsbD 4
          unalignTrp := v.getLsbD 3
          usersetmpend := v.getLsbD 1
          nonbasethrdena := v.getLsbD 0 } }

/-- `RD.SCR` (R180). -/
def execRdScr (priv : Bool) (s : State) : Result :=
  readAccess priv 0xE000ED10#32 (fun t => .word (scrValue t)) s

/-- `WR.SCR` (R181). -/
def execWrScr (priv : Bool) (v : Word) (s : State) : Result :=
  writeAccess priv 0xE000ED10#32 (writeScr v) s

/-- `RD.CCR` (R188). -/
def execRdCcr (priv : Bool) (s : State) : Result :=
  readAccess priv 0xE000ED14#32 (fun t => .word (ccrValue t)) s

/-- `WR.CCR` (R189). -/
def execWrCcr (priv : Bool) (v : Word) (s : State) : Result :=
  writeAccess priv 0xE000ED14#32 (writeCcr v) s

end Sys2Proof.Machine
end

