-- ==== Sys2Proof/Machine/ShprShcsr.lean ====
section
/-! DEFINITION. SHPR1 to SHPR3, their byte and halfword forms, and SHCSR (43_shpr_shcsr.md). -/

namespace Sys2Proof.Machine

/-- SHPR1 as it reads: PRI_6, PRI_5, PRI_4, each with a low nibble of 0 (R200). -/
def shpr1Value (s : State) : Word := fieldAt s.pri.pri6 20 ||| fieldAt s.pri.pri5 12 ||| fieldAt s.pri.pri4 4

/-- The write rule of SHPR1, for the shifted value `v` and the lane mask `m`: the low nibble of a byte is ignored, a byte outside the lane
keeps its value (R201, R206). -/
def writeShpr1 (v m : Word) : State → Result :=
  guardReserved 0xFF000000#32 (v &&& m) fun s =>
    .next { s with
      pri :=
        { s.pri with
          pri4 := if selectsByte m 0 then v.extractLsb' 4 4 else s.pri.pri4
          pri5 := if selectsByte m 8 then v.extractLsb' 12 4 else s.pri.pri5
          pri6 := if selectsByte m 16 then v.extractLsb' 20 4 else s.pri.pri6 } }

/-- SHPR2 as it reads: PRI_11 (R202). -/
def shpr2Value (s : State) : Word := fieldAt s.pri.pri11 28

/-- The write rule of SHPR2 (R203). -/
def writeShpr2 (v m : Word) : State → Result :=
  guardReserved 0x00FFFFFF#32 (v &&& m) fun s =>
    .next { s with
      pri := { s.pri with pri11 := if selectsByte m 24 then v.extractLsb' 28 4 else s.pri.pri11 } }

/-- SHPR3 as it reads: PRI_15, PRI_14 (R204). -/
def shpr3Value (s : State) : Word := fieldAt s.pri.pri15 28 ||| fieldAt s.pri.pri14 20

/-- The write rule of SHPR3 (R205). -/
def writeShpr3 (v m : Word) : State → Result :=
  guardReserved 0x0000FFFF#32 (v &&& m) fun s =>
    .next { s with
      pri :=
        { s.pri with
          pri14 := if selectsByte m 16 then v.extractLsb' 20 4 else s.pri.pri14
          pri15 := if selectsByte m 24 then v.extractLsb' 28 4 else s.pri.pri15 } }

/-- SHCSR as it reads: the enables, and views of the pending and active arrays (R210). -/
def shcsrValue (s : State) : Word :=
  bitAt s.ena.usgfault 18 ||| bitAt s.ena.busfault 17 ||| bitAt s.ena.memfault 16
    ||| bitAt (s.isPending excSvCall) 15 ||| bitAt (s.isPending excBusFault) 14 ||| bitAt (s.isPending excMemManage) 13
    ||| bitAt (s.isPending excUsageFault) 12
    ||| bitAt (s.isActive excSysTick) 11 ||| bitAt (s.isActive excPendSv) 10 ||| bitAt (s.isActive excDebugMonitor) 8
    ||| bitAt (s.isActive excSvCall) 7 ||| bitAt (s.isActive excUsageFault) 3 ||| bitAt (s.isActive excBusFault) 1
    ||| bitAt (s.isActive excMemManage) 0

/-- The pended bits of a written SHCSR word become the pending state (R211, R213). -/
def shcsrPended (v : Word) (s : State) : State :=
  (((s.setPending excSvCall (v.getLsbD 15)).setPending excBusFault (v.getLsbD 14)).setPending excMemManage
    (v.getLsbD 13)).setPending excUsageFault (v.getLsbD 12)

/-- The active bits of a written SHCSR word become the active state; IPSR and the frames are unchanged (R211, R214). -/
def shcsrActive (v : Word) (s : State) : State :=
  ((((((s.setActive excSysTick (v.getLsbD 11)).setActive excPendSv (v.getLsbD 10)).setActive excDebugMonitor
    (v.getLsbD 8)).setActive excSvCall (v.getLsbD 7)).setActive excUsageFault (v.getLsbD 3)).setActive excBusFault
    (v.getLsbD 1)).setActive excMemManage (v.getLsbD 0)

/-- The write rule of SHCSR: each defined bit takes the value written (R211; DESIGN CHOICE, log 46). -/
def writeShcsr (v : Word) : State → Result :=
  guardReserved 0xFFF80274#32 v fun s =>
    .next (shcsrActive v (shcsrPended v
      { s with
        ena :=
          { usgfault := v.getLsbD 18
            busfault := v.getLsbD 17
            memfault := v.getLsbD 16 } }))

/-- `RD.SHPR1` (R200). -/
def execRdShpr1 (priv : Bool) (s : State) : Result :=
  readAccess priv 0xE000ED18#32 (fun t => .word (shpr1Value t)) s

/-- `WR.SHPR1` (R201). -/
def execWrShpr1 (priv : Bool) (v : Word) (s : State) : Result :=
  writeAccess priv 0xE000ED18#32 (writeShpr1 v wordMask) s

/-- `RD.SHPR2` (R202). -/
def execRdShpr2 (priv : Bool) (s : State) : Result :=
  readAccess priv 0xE000ED1C#32 (fun t => .word (shpr2Value t)) s

/-- `WR.SHPR2` (R203). -/
def execWrShpr2 (priv : Bool) (v : Word) (s : State) : Result :=
  writeAccess priv 0xE000ED1C#32 (writeShpr2 v wordMask) s

/-- `RD.SHPR3` (R204). -/
def execRdShpr3 (priv : Bool) (s : State) : Result :=
  readAccess priv 0xE000ED20#32 (fun t => .word (shpr3Value t)) s

/-- `WR.SHPR3` (R205). -/
def execWrShpr3 (priv : Bool) (v : Word) (s : State) : Result :=
  writeAccess priv 0xE000ED20#32 (writeShpr3 v wordMask) s

/-- `RD.SHCSR` (R210). -/
def execRdShcsr (priv : Bool) (s : State) : Result :=
  readAccess priv 0xE000ED24#32 (fun t => .word (shcsrValue t)) s

/-- `WR.SHCSR` (R211). -/
def execWrShcsr (priv : Bool) (v : Word) (s : State) : Result :=
  writeAccess priv 0xE000ED24#32 (writeShcsr v) s

/-- `RDB.PRI_4`: bits 7:0 of `RD.SHPR1` (R208, R73). -/
def execRdbPri4 (priv : Bool) (s : State) : Result :=
  readAccess priv 0xE000ED18#32 (fun t => .byte (laneOfWord (shpr1Value t) 0)) s

/-- `WRB.PRI_4`: `WR.SHPR1` through the lane of bits 7:0 (R208, R73). -/
def execWrbPri4 (priv : Bool) (v : Byte) (s : State) : Result :=
  writeAccess priv 0xE000ED18#32 (writeShpr1 (byteLane v 0) (byteMask 0)) s

/-- `RDB.PRI_5`: bits 15:8 of `RD.SHPR1` (R208, R73). -/
def execRdbPri5 (priv : Bool) (s : State) : Result :=
  readAccess priv 0xE000ED19#32 (fun t => .byte (laneOfWord (shpr1Value t) 1)) s

/-- `WRB.PRI_5`: `WR.SHPR1` through the lane of bits 15:8 (R208, R73). -/
def execWrbPri5 (priv : Bool) (v : Byte) (s : State) : Result :=
  writeAccess priv 0xE000ED19#32 (writeShpr1 (byteLane v 1) (byteMask 1)) s

/-- `RDB.PRI_6`: bits 23:16 of `RD.SHPR1` (R208, R73). -/
def execRdbPri6 (priv : Bool) (s : State) : Result :=
  readAccess priv 0xE000ED1A#32 (fun t => .byte (laneOfWord (shpr1Value t) 2)) s

/-- `WRB.PRI_6`: `WR.SHPR1` through the lane of bits 23:16 (R208, R73). -/
def execWrbPri6 (priv : Bool) (v : Byte) (s : State) : Result :=
  writeAccess priv 0xE000ED1A#32 (writeShpr1 (byteLane v 2) (byteMask 2)) s

/-- `RDB.SHPR1_B3`: bits 31:24 of `RD.SHPR1` (R208, R73). -/
def execRdbShpr1B3 (priv : Bool) (s : State) : Result :=
  readAccess priv 0xE000ED1B#32 (fun t => .byte (laneOfWord (shpr1Value t) 3)) s

/-- `WRB.SHPR1_B3`: `WR.SHPR1` through the lane of bits 31:24 (R208, R73). -/
def execWrbShpr1B3 (priv : Bool) (v : Byte) (s : State) : Result :=
  writeAccess priv 0xE000ED1B#32 (writeShpr1 (byteLane v 3) (byteMask 3)) s

/-- `RDH.SHPR1_LO`: bits 15:0 of `RD.SHPR1` (R208, R73). -/
def execRdhShpr1Lo (priv : Bool) (s : State) : Result :=
  readAccess priv 0xE000ED18#32 (fun t => .half (halfOfWord (shpr1Value t) 0)) s

/-- `WRH.SHPR1_LO`: `WR.SHPR1` through the lane of bits 15:0 (R208, R73). -/
def execWrhShpr1Lo (priv : Bool) (v : Half) (s : State) : Result :=
  writeAccess priv 0xE000ED18#32 (writeShpr1 (halfLane v 0) (halfMask 0)) s

/-- `RDH.SHPR1_HI`: bits 31:16 of `RD.SHPR1` (R208, R73). -/
def execRdhShpr1Hi (priv : Bool) (s : State) : Result :=
  readAccess priv 0xE000ED1A#32 (fun t => .half (halfOfWord (shpr1Value t) 2)) s

/-- `WRH.SHPR1_HI`: `WR.SHPR1` through the lane of bits 31:16 (R208, R73). -/
def execWrhShpr1Hi (priv : Bool) (v : Half) (s : State) : Result :=
  writeAccess priv 0xE000ED1A#32 (writeShpr1 (halfLane v 2) (halfMask 2)) s

/-- `RDB.SHPR2_B0`: bits 7:0 of `RD.SHPR2` (R208, R73). -/
def execRdbShpr2B0 (priv : Bool) (s : State) : Result :=
  readAccess priv 0xE000ED1C#32 (fun t => .byte (laneOfWord (shpr2Value t) 0)) s

/-- `WRB.SHPR2_B0`: `WR.SHPR2` through the lane of bits 7:0 (R208, R73). -/
def execWrbShpr2B0 (priv : Bool) (v : Byte) (s : State) : Result :=
  writeAccess priv 0xE000ED1C#32 (writeShpr2 (byteLane v 0) (byteMask 0)) s

/-- `RDB.SHPR2_B1`: bits 15:8 of `RD.SHPR2` (R208, R73). -/
def execRdbShpr2B1 (priv : Bool) (s : State) : Result :=
  readAccess priv 0xE000ED1D#32 (fun t => .byte (laneOfWord (shpr2Value t) 1)) s

/-- `WRB.SHPR2_B1`: `WR.SHPR2` through the lane of bits 15:8 (R208, R73). -/
def execWrbShpr2B1 (priv : Bool) (v : Byte) (s : State) : Result :=
  writeAccess priv 0xE000ED1D#32 (writeShpr2 (byteLane v 1) (byteMask 1)) s

/-- `RDB.SHPR2_B2`: bits 23:16 of `RD.SHPR2` (R208, R73). -/
def execRdbShpr2B2 (priv : Bool) (s : State) : Result :=
  readAccess priv 0xE000ED1E#32 (fun t => .byte (laneOfWord (shpr2Value t) 2)) s

/-- `WRB.SHPR2_B2`: `WR.SHPR2` through the lane of bits 23:16 (R208, R73). -/
def execWrbShpr2B2 (priv : Bool) (v : Byte) (s : State) : Result :=
  writeAccess priv 0xE000ED1E#32 (writeShpr2 (byteLane v 2) (byteMask 2)) s

/-- `RDB.PRI_11`: bits 31:24 of `RD.SHPR2` (R208, R73). -/
def execRdbPri11 (priv : Bool) (s : State) : Result :=
  readAccess priv 0xE000ED1F#32 (fun t => .byte (laneOfWord (shpr2Value t) 3)) s

/-- `WRB.PRI_11`: `WR.SHPR2` through the lane of bits 31:24 (R208, R73). -/
def execWrbPri11 (priv : Bool) (v : Byte) (s : State) : Result :=
  writeAccess priv 0xE000ED1F#32 (writeShpr2 (byteLane v 3) (byteMask 3)) s

/-- `RDH.SHPR2_LO`: bits 15:0 of `RD.SHPR2` (R208, R73). -/
def execRdhShpr2Lo (priv : Bool) (s : State) : Result :=
  readAccess priv 0xE000ED1C#32 (fun t => .half (halfOfWord (shpr2Value t) 0)) s

/-- `WRH.SHPR2_LO`: `WR.SHPR2` through the lane of bits 15:0 (R208, R73). -/
def execWrhShpr2Lo (priv : Bool) (v : Half) (s : State) : Result :=
  writeAccess priv 0xE000ED1C#32 (writeShpr2 (halfLane v 0) (halfMask 0)) s

/-- `RDH.SHPR2_HI`: bits 31:16 of `RD.SHPR2` (R208, R73). -/
def execRdhShpr2Hi (priv : Bool) (s : State) : Result :=
  readAccess priv 0xE000ED1E#32 (fun t => .half (halfOfWord (shpr2Value t) 2)) s

/-- `WRH.SHPR2_HI`: `WR.SHPR2` through the lane of bits 31:16 (R208, R73). -/
def execWrhShpr2Hi (priv : Bool) (v : Half) (s : State) : Result :=
  writeAccess priv 0xE000ED1E#32 (writeShpr2 (halfLane v 2) (halfMask 2)) s

/-- `RDB.SHPR3_B0`: bits 7:0 of `RD.SHPR3` (R208, R73). -/
def execRdbShpr3B0 (priv : Bool) (s : State) : Result :=
  readAccess priv 0xE000ED20#32 (fun t => .byte (laneOfWord (shpr3Value t) 0)) s

/-- `WRB.SHPR3_B0`: `WR.SHPR3` through the lane of bits 7:0 (R208, R73). -/
def execWrbShpr3B0 (priv : Bool) (v : Byte) (s : State) : Result :=
  writeAccess priv 0xE000ED20#32 (writeShpr3 (byteLane v 0) (byteMask 0)) s

/-- `RDB.SHPR3_B1`: bits 15:8 of `RD.SHPR3` (R208, R73). -/
def execRdbShpr3B1 (priv : Bool) (s : State) : Result :=
  readAccess priv 0xE000ED21#32 (fun t => .byte (laneOfWord (shpr3Value t) 1)) s

/-- `WRB.SHPR3_B1`: `WR.SHPR3` through the lane of bits 15:8 (R208, R73). -/
def execWrbShpr3B1 (priv : Bool) (v : Byte) (s : State) : Result :=
  writeAccess priv 0xE000ED21#32 (writeShpr3 (byteLane v 1) (byteMask 1)) s

/-- `RDB.PRI_14`: bits 23:16 of `RD.SHPR3` (R208, R73). -/
def execRdbPri14 (priv : Bool) (s : State) : Result :=
  readAccess priv 0xE000ED22#32 (fun t => .byte (laneOfWord (shpr3Value t) 2)) s

/-- `WRB.PRI_14`: `WR.SHPR3` through the lane of bits 23:16 (R208, R73). -/
def execWrbPri14 (priv : Bool) (v : Byte) (s : State) : Result :=
  writeAccess priv 0xE000ED22#32 (writeShpr3 (byteLane v 2) (byteMask 2)) s

/-- `RDB.PRI_15`: bits 31:24 of `RD.SHPR3` (R208, R73). -/
def execRdbPri15 (priv : Bool) (s : State) : Result :=
  readAccess priv 0xE000ED23#32 (fun t => .byte (laneOfWord (shpr3Value t) 3)) s

/-- `WRB.PRI_15`: `WR.SHPR3` through the lane of bits 31:24 (R208, R73). -/
def execWrbPri15 (priv : Bool) (v : Byte) (s : State) : Result :=
  writeAccess priv 0xE000ED23#32 (writeShpr3 (byteLane v 3) (byteMask 3)) s

/-- `RDH.SHPR3_LO`: bits 15:0 of `RD.SHPR3` (R208, R73). -/
def execRdhShpr3Lo (priv : Bool) (s : State) : Result :=
  readAccess priv 0xE000ED20#32 (fun t => .half (halfOfWord (shpr3Value t) 0)) s

/-- `WRH.SHPR3_LO`: `WR.SHPR3` through the lane of bits 15:0 (R208, R73). -/
def execWrhShpr3Lo (priv : Bool) (v : Half) (s : State) : Result :=
  writeAccess priv 0xE000ED20#32 (writeShpr3 (halfLane v 0) (halfMask 0)) s

/-- `RDH.SHPR3_HI`: bits 31:16 of `RD.SHPR3` (R208, R73). -/
def execRdhShpr3Hi (priv : Bool) (s : State) : Result :=
  readAccess priv 0xE000ED22#32 (fun t => .half (halfOfWord (shpr3Value t) 2)) s

/-- `WRH.SHPR3_HI`: `WR.SHPR3` through the lane of bits 31:16 (R208, R73). -/
def execWrhShpr3Hi (priv : Bool) (v : Half) (s : State) : Result :=
  writeAccess priv 0xE000ED22#32 (writeShpr3 (halfLane v 2) (halfMask 2)) s

end Sys2Proof.Machine
end

