-- ==== Sys2Proof/Machine/Dispatch.lean ====
section
/-! DEFINITION. From an instruction to its meaning: one arm per constructor of `Instr`. -/

namespace Sys2Proof.Machine

def exec (i : Instr) (s : State) : Host.Outcome State Fault Refusal :=
  match i with
  | .rdActlr priv => Sys2Proof.Machine.execRdActlr priv s
  | .wrActlr priv v => Sys2Proof.Machine.execWrActlr priv v s
  | .rdCpuid priv => Sys2Proof.Machine.execRdCpuid priv s
  | .wrCpuid priv v => Sys2Proof.Machine.execWrCpuid priv v s
  | .rdIcsr priv => Sys2Proof.Machine.execRdIcsr priv s
  | .wrIcsr priv v => Sys2Proof.Machine.execWrIcsr priv v s
  | .rdVtor priv => Sys2Proof.Machine.execRdVtor priv s
  | .wrVtor priv v => Sys2Proof.Machine.execWrVtor priv v s
  | .rdAircr priv => Sys2Proof.Machine.execRdAircr priv s
  | .wrAircr priv v => Sys2Proof.Machine.execWrAircr priv v s
  | .rdScr priv => Sys2Proof.Machine.execRdScr priv s
  | .wrScr priv v => Sys2Proof.Machine.execWrScr priv v s
  | .rdCcr priv => Sys2Proof.Machine.execRdCcr priv s
  | .wrCcr priv v => Sys2Proof.Machine.execWrCcr priv v s
  | .rdShpr1 priv => Sys2Proof.Machine.execRdShpr1 priv s
  | .wrShpr1 priv v => Sys2Proof.Machine.execWrShpr1 priv v s
  | .rdShpr2 priv => Sys2Proof.Machine.execRdShpr2 priv s
  | .wrShpr2 priv v => Sys2Proof.Machine.execWrShpr2 priv v s
  | .rdShpr3 priv => Sys2Proof.Machine.execRdShpr3 priv s
  | .wrShpr3 priv v => Sys2Proof.Machine.execWrShpr3 priv v s
  | .rdShcsr priv => Sys2Proof.Machine.execRdShcsr priv s
  | .wrShcsr priv v => Sys2Proof.Machine.execWrShcsr priv v s
  | .rdCfsr priv => Sys2Proof.Machine.execRdCfsr priv s
  | .wrCfsr priv v => Sys2Proof.Machine.execWrCfsr priv v s
  | .rdHfsr priv => Sys2Proof.Machine.execRdHfsr priv s
  | .wrHfsr priv v => Sys2Proof.Machine.execWrHfsr priv v s
  | .rdMmfar priv => Sys2Proof.Machine.execRdMmfar priv s
  | .wrMmfar priv v => Sys2Proof.Machine.execWrMmfar priv v s
  | .rdBfar priv => Sys2Proof.Machine.execRdBfar priv s
  | .wrBfar priv v => Sys2Proof.Machine.execWrBfar priv v s
  | .rdAfsr priv => Sys2Proof.Machine.execRdAfsr priv s
  | .wrAfsr priv v => Sys2Proof.Machine.execWrAfsr priv v s
  | .rdbPri4 priv => Sys2Proof.Machine.execRdbPri4 priv s
  | .wrbPri4 priv v => Sys2Proof.Machine.execWrbPri4 priv v s
  | .rdbPri5 priv => Sys2Proof.Machine.execRdbPri5 priv s
  | .wrbPri5 priv v => Sys2Proof.Machine.execWrbPri5 priv v s
  | .rdbPri6 priv => Sys2Proof.Machine.execRdbPri6 priv s
  | .wrbPri6 priv v => Sys2Proof.Machine.execWrbPri6 priv v s
  | .rdbShpr1B3 priv => Sys2Proof.Machine.execRdbShpr1B3 priv s
  | .wrbShpr1B3 priv v => Sys2Proof.Machine.execWrbShpr1B3 priv v s
  | .rdhShpr1Lo priv => Sys2Proof.Machine.execRdhShpr1Lo priv s
  | .wrhShpr1Lo priv v => Sys2Proof.Machine.execWrhShpr1Lo priv v s
  | .rdhShpr1Hi priv => Sys2Proof.Machine.execRdhShpr1Hi priv s
  | .wrhShpr1Hi priv v => Sys2Proof.Machine.execWrhShpr1Hi priv v s
  | .rdbShpr2B0 priv => Sys2Proof.Machine.execRdbShpr2B0 priv s
  | .wrbShpr2B0 priv v => Sys2Proof.Machine.execWrbShpr2B0 priv v s
  | .rdbShpr2B1 priv => Sys2Proof.Machine.execRdbShpr2B1 priv s
  | .wrbShpr2B1 priv v => Sys2Proof.Machine.execWrbShpr2B1 priv v s
  | .rdbShpr2B2 priv => Sys2Proof.Machine.execRdbShpr2B2 priv s
  | .wrbShpr2B2 priv v => Sys2Proof.Machine.execWrbShpr2B2 priv v s
  | .rdbPri11 priv => Sys2Proof.Machine.execRdbPri11 priv s
  | .wrbPri11 priv v => Sys2Proof.Machine.execWrbPri11 priv v s
  | .rdhShpr2Lo priv => Sys2Proof.Machine.execRdhShpr2Lo priv s
  | .wrhShpr2Lo priv v => Sys2Proof.Machine.execWrhShpr2Lo priv v s
  | .rdhShpr2Hi priv => Sys2Proof.Machine.execRdhShpr2Hi priv s
  | .wrhShpr2Hi priv v => Sys2Proof.Machine.execWrhShpr2Hi priv v s
  | .rdbShpr3B0 priv => Sys2Proof.Machine.execRdbShpr3B0 priv s
  | .wrbShpr3B0 priv v => Sys2Proof.Machine.execWrbShpr3B0 priv v s
  | .rdbShpr3B1 priv => Sys2Proof.Machine.execRdbShpr3B1 priv s
  | .wrbShpr3B1 priv v => Sys2Proof.Machine.execWrbShpr3B1 priv v s
  | .rdbPri14 priv => Sys2Proof.Machine.execRdbPri14 priv s
  | .wrbPri14 priv v => Sys2Proof.Machine.execWrbPri14 priv v s
  | .rdbPri15 priv => Sys2Proof.Machine.execRdbPri15 priv s
  | .wrbPri15 priv v => Sys2Proof.Machine.execWrbPri15 priv v s
  | .rdhShpr3Lo priv => Sys2Proof.Machine.execRdhShpr3Lo priv s
  | .wrhShpr3Lo priv v => Sys2Proof.Machine.execWrhShpr3Lo priv v s
  | .rdhShpr3Hi priv => Sys2Proof.Machine.execRdhShpr3Hi priv s
  | .wrhShpr3Hi priv v => Sys2Proof.Machine.execWrhShpr3Hi priv v s
  | .rdbMmfsr priv => Sys2Proof.Machine.execRdbMmfsr priv s
  | .wrbMmfsr priv v => Sys2Proof.Machine.execWrbMmfsr priv v s
  | .rdbBfsr priv => Sys2Proof.Machine.execRdbBfsr priv s
  | .wrbBfsr priv v => Sys2Proof.Machine.execWrbBfsr priv v s
  | .rdbUfsrLo priv => Sys2Proof.Machine.execRdbUfsrLo priv s
  | .wrbUfsrLo priv v => Sys2Proof.Machine.execWrbUfsrLo priv v s
  | .rdbUfsrHi priv => Sys2Proof.Machine.execRdbUfsrHi priv s
  | .wrbUfsrHi priv v => Sys2Proof.Machine.execWrbUfsrHi priv v s
  | .rdhCfsrLo priv => Sys2Proof.Machine.execRdhCfsrLo priv s
  | .wrhCfsrLo priv v => Sys2Proof.Machine.execWrhCfsrLo priv v s
  | .rdhUfsr priv => Sys2Proof.Machine.execRdhUfsr priv s
  | .wrhUfsr priv v => Sys2Proof.Machine.execWrhUfsr priv v s

end Sys2Proof.Machine
end

