-- ==== Sys2Proof/WellFormed.lean ====
section
/-! DEFINITION. Which accesses have a meaning: the address map of R70, the sizes and alignments of R74, the width of the data. -/

namespace Sys2Proof

/-- The address map: the word address of every register of the block, and whether it is byte accessible (R70, R74). -/
def addressMap : List (Word × Bool) :=
  [ (0xE000E008#32, false)   -- ACTLR
  , (0xE000ED00#32, false)   -- CPUID
  , (0xE000ED04#32, false)   -- ICSR
  , (0xE000ED08#32, false)   -- VTOR
  , (0xE000ED0C#32, false)   -- AIRCR
  , (0xE000ED10#32, false)   -- SCR
  , (0xE000ED14#32, false)   -- CCR
  , (0xE000ED18#32, true)    -- SHPR1
  , (0xE000ED1C#32, true)    -- SHPR2
  , (0xE000ED20#32, true)    -- SHPR3
  , (0xE000ED24#32, false)   -- SHCSR
  , (0xE000ED28#32, true)    -- CFSR
  , (0xE000ED2C#32, false)   -- HFSR
  , (0xE000ED34#32, false)   -- MMFAR
  , (0xE000ED38#32, false)   -- BFAR
  , (0xE000ED3C#32, false) ] -- AFSR

/-- The word address that holds the byte address `a`. -/
def wordAddr (a : Word) : Word := a &&& 0xFFFFFFFC#32

/-- The address lies in a register of the block (R70, R72). -/
def isListed (a : Word) : Bool := addressMap.any fun e => e.1 == wordAddr a

/-- The address lies in a byte-accessible register: SHPR1, SHPR2, SHPR3 or CFSR (R74). -/
def isByteAccessible (a : Word) : Bool := addressMap.any fun e => e.1 == wordAddr a && e.2

namespace Access

/-- The address is a multiple of the size (R75). -/
def aligned (a : Access) : Bool := a.addr.toNat % a.size.bytes == 0

/-- The register at the address allows the size (R74). -/
def sizeAllowed (a : Access) : Bool := a.size == .word || isByteAccessible a.addr

/-- The data fits the size of the access (R100). -/
def dataFits (a : Access) : Bool := decide (a.data.toNat < 2 ^ (8 * a.size.bytes))

/-- A read carries no data (R100). -/
def readCarriesNone (a : Access) : Bool := a.dir == .write || a.data == 0#32

/-- An access that R74 allows, with data as R100 says. -/
def wellFormed (a : Access) : Bool :=
  isListed a.addr && a.aligned && a.sizeAllowed && a.dataFits && a.readCarriesNone

end Access
end Sys2Proof
end

