-- ==== Sys2Proof/Machine/Events.lean ====
section
/-! DEFINITION. What the events of the environment and of the processor do to the state (42_scr_ccr.md, 44_fault_status.md, 60_exceptions.md,
70_reset_and_hazards.md). -/

namespace Sys2Proof.Machine

/-! ## The environment -/

/-- The AUXFAULT latch: an input that is HIGH sets its AFSR bit (R264); in lock-up no register changes (R304). -/
def latchAuxfault (s : State) : State := if s.lockedUp then s else { s with afsr := s.afsr ||| s.auxfault }

/-- Reset (R380, R381, R382): every register of the block and the shared exception state as after reset; the machine's parameters, the level of the
inputs and the schedule stay (log 34). -/
def applyReset (s : State) : State :=
  { State.resetAt s.drawn with
    auxfault := s.auxfault
    entryErrors := s.entryErrors
    params := s.params
    schedule := s.schedule }

/-- The AUXFAULT inputs take a level; those HIGH are latched, and nothing else happens (R264, R265). -/
def eventAuxfault (level : Word) (s : State) : Result :=
  .next (latchAuxfault { s with auxfault := level })

/-- The machine has the interrupt line `k` (R9). -/
def hasIrq (s : State) (k : Nat) : Bool := decide (k < s.params.numIrq.val)

/-- Interrupt `k` requests exception 16 + k (R41, R306). -/
def eventIrq (k : Nat) (s : State) : Result :=
  if hasIrq s k then .next (requestException (16 + k) s) else .refused .noSuchInterrupt

/-- The pending state of interrupt `k` is removed (R305). -/
def eventIrqClear (k : Nat) (s : State) : Result :=
  if hasIrq s k then .next (s.setPending (16 + k) false) else .refused .noSuchInterrupt

/-- The NVIC sets the enable and the priority of interrupt `k` (R44, R45). -/
def eventNvic (k : Nat) (enable : Bool) (p : BitVec 4) (s : State) : Result :=
  if hasIrq s k then
    .next { s with nvicEnabled := s.nvicEnabled.setIfInBounds k enable, nvicPrio := s.nvicPrio.setIfInBounds k p }
  else .refused .noSuchInterrupt

/-- Software that was said to run privileged or not runs privileged: in Handler mode all does (R317; PRESUMED, log 49). -/
def softwarePrivileged (priv : Bool) (s : State) : Bool := priv || s.ipsr != 0#9

/-- A write of the STIR: by privileged software, or by unprivileged software that USERSETMPEND lets in, it requests interrupt `k` (R194, R306, R317;
log 43). -/
def eventStir (priv : Bool) (k : Nat) (s : State) : Result :=
  if softwarePrivileged priv s || s.seen.ccr.usersetmpend then eventIrq k s else .refused .stirDenied

/-! ## Sleep and events -/

/-- The processor goes to sleep, or to deep sleep, as SLEEPDEEP says (R183). -/
def fallAsleep (cause : SleepCause) (s : State) : State := { s with power := .asleep cause s.seen.scr.sleepdeep }

/-- WFE: with no event registered the processor waits for one. A registered event "affects the next WFE" in a way that is outside the
spec: whether it still sleeps and whether the event stays registered are draws (R182; DESIGN CHOICE, log 33). -/
def eventWfe (s : State) : State :=
  if s.eventRegister then
    let t := { s with eventRegister := Config.drawBit s.drawn, drawn := s.drawn + 2 }
    if Config.drawBit (s.drawn + 1) then fallAsleep .wfe t else t
  else fallAsleep .wfe s

/-! ## Instructions of the core -/

/-- SDIV or UDIV with divisor 0 (R192, R232). -/
def eventDivideByZero (s : State) : State :=
  if s.seen.ccr.div0Trp then reportFault .divbyzero .none s else { s with destWrite := some 0#32 }

/-- Some of the `n` bytes from `a` on lie in a register of the block (R70). -/
def touchesBlock (a : Word) (n : Nat) : Bool := (List.range n).any fun k => isListed (a + BitVec.ofNat 32 k)

/-- An access of the `n` bytes from `a` on that the spec does not have where one of them lies in the block: refused there by `why`, and elsewhere `go`
(R85, R88; log 47). -/
def refuseInBlock (a : Word) (n : Nat) (why : Refusal) (go : Result) : Result := if touchesBlock a n then .refused why else go

/-- Why a single access of `size` at `a` that touches the block is no access of other memory: it is an operation of the block, which the schedule must
hold as its bytes (R100), or one that the register does not allow (R75; log 47). -/
def singleInBlock (size : Size) (a : Word) : Refusal :=
  if a.toNat % size.bytes = 0 ∧ (size = .word ∨ isByteAccessible a = true) then .accessIsAnOperation else .unsupportedAccess

/-- What a single access of `size` at `a` in ordinary memory gives, `done`; one that touches the block is refused. The fault of an unprivileged access to the
block is the bus fault of the operation, and a privileged one meets none (R75, R79, R102; log 47). -/
def singleOutsideBlock (size : Size) (a : Word) (done : State) : Result :=
  refuseInBlock a size.bytes (singleInBlock size a) (.next done)

/-- A data access of `size` at `a` in ordinary memory: where it is unaligned it traps, if `traps` says so, and is performed otherwise, which gives
`done` (R193, R233). -/
def alignedOrTrap (traps : Bool) (size : Size) (a : Word) (done s : State) : State :=
  if a.toNat % size.bytes ≠ 0 ∧ traps = true then reportFault .unaligned .none s else done

/-- The instruction at `pc` may have a byte in the block. The spec does not give its length: no instruction is longer than four bytes, as the family has it
(R85; PRESUMED, log 47). -/
def instructionInBlock (pc : Word) : Bool := touchesBlock pc 4

/-- A data access. In ordinary memory an unaligned halfword or word access traps if UNALIGN_TRP says so, and always for a multi-register or
doubleword instruction, and any other is performed (R193, R233). One that touches the block is refused whatever UNALIGN_TRP says: a
multi-register or doubleword one (R88), and a single one (R75, R193; log 47). -/
def eventDataAccess (multi : Bool) (size : Size) (a : Word) (s : State) : Result :=
  refuseInBlock a size.bytes (if multi then .multiAccessToScb else singleInBlock size a)
    (.next (alignedOrTrap (multi || s.seen.ccr.unalignTrp) size a s s))

/-- A multi-register or doubleword access of `words` words from `a` on: refused if it touches the block (R88); in ordinary memory an unaligned one
always faults (R193, R233). -/
def eventMultiAccess (a : Word) (words : Nat) (s : State) : Result :=
  refuseInBlock a (4 * words) .multiAccessToScb (.next (alignedOrTrap true .word a s s))

/-- The processor has come to the instruction at `pc`; an instruction fetch from the block is refused (R48, R85; log 47). -/
def eventCore (pc sp : Word) (s : State) : Result :=
  if instructionInBlock pc then .refused .fetchFromScb else .next { s with pc := pc, sp := sp }

/-- The fetch of the instruction of `size` at the PC went wrong as `c` says, a bus error found on issue or an access violation (R244, R250); a fetch
from the block is refused instead (R85, R250). -/
def eventFetchFault (c : Cause) (size : Size) (s : State) : Result :=
  refuseInBlock s.pc size.bytes .fetchFromScb (.next (reportFault c .none s))

/-- An instruction that makes illegal use of the EPSR; if it is also undefined it is only that (R236). -/
def eventIllegalEpsr (undefined : Bool) (s : State) : State :=
  reportFault (if undefined then .undefinstr else .invstate) .none s

/-- An error of a store of floating-point lazy state preservation at `a`: whether the address is recorded, and the stacked PC, are
not stated, so both are drawn (R239, R246, R313; DESIGN CHOICE, log 30). That it comes only while an instruction executes is `kindOf`'s choice
(N11; log 30). -/
def eventLazyFault (c : Cause) (a : Word) (s : State) : State :=
  reportFault c (.unspecified a) { s with pc := Config.drawWord s.drawn, drawn := s.drawn + 1 }

/-- The automatic update of CONTROL.FPCA, unless DISFPCA disables it (R123; log 36). -/
def eventAutoFpca (value : Bool) (s : State) : State :=
  if s.actlr.disfpca then s else { s with fpca := value }

/-- A store to ordinary memory goes its way: with DISDEFWBUF = 0 it is held in the write buffer; with 1 it completes before the next instruction,
and its bus error is precise (R83, R125, R243). -/
def bufferOrComplete (a : Word) (fails : Bool) (s : State) : State :=
  if s.actlr.disdefwbuf then (if fails then preciseBusError false a s else s) else { s with writeBuffer := s.writeBuffer ++ [a] }

/-- A store that may use the write buffer: unaligned under UNALIGN_TRP it traps, and is neither buffered nor performed (R193, R233). One to the block
never may: it is an operation of the block, complete in order (R80, R83; log 47). -/
def eventBufferableStore (size : Size) (a : Word) (fails : Bool) (s : State) : Result :=
  singleOutsideBlock size a (alignedOrTrap s.seen.ccr.unalignTrp size a (bufferOrComplete a fails s) s)

/-- The `i`-th buffered store completes; its bus error is imprecise, and excluded while DISDEFWBUF = 1 (R49, R242, R125; log 35). If it is escalated,
the stacked PC is that of the instruction about to execute, `next` (R242, R313). With no such store there is nothing to complete. -/
def eventDrain (i : Nat) (fails : Bool) (next : Word) (s : State) : Result :=
  if i < s.writeBuffer.length then
    let t := { s with writeBuffer := s.writeBuffer.eraseIdx i }
    if fails then
      if s.actlr.disdefwbuf then .refused .drainWhileDisabled else .next (impreciseBusError next t)
    else .next t
  else .next s

/-- The processor takes the exception that may preempt now, if there is one; not inside an LDM or STM under DISMCYCINT (R305, R309, R126). That no
multiply or divide is interrupted part-way, so that DISMCYCINT holds nothing back there, is the model's choice (C15; DESIGN CHOICE, log 51). The
frame gets the address of the instruction that would have executed next (R313; PRESUMED, log 42). -/
def eventTakeException (insideMultiple : Bool) (next : Word) (s : State) : State :=
  if insideMultiple && s.actlr.dismcycint then s
  else match nextException s with
    | none => s
    | some n => takeException n { s with pc := next }

/-- Which agent an event belongs to, and what it takes of the instruction at the PC. -/
inductive EventKind where
  /-- The environment or the exception logic: no instruction is at hand. -/
  | environment
  /-- The processor fetches, at an address that the event or the PC names. -/
  | fetch
  /-- The processor executes the instruction at the PC. -/
  | execution
deriving DecidableEq, Repr

/-- The kind of an event. The spec leaves open when the automatic update of CONTROL.FPCA happens (R123, N15), when lazy state preservation performs its
stores (R239, R246, N11), and when the processor prefetches (R244): that they come only while the processor executes an instruction or fetches one, neither
asleep nor in lock-up, is the model's choice (DESIGN CHOICE, logs 36, 30, 32). -/
def kindOf : Event → EventKind
  | .reset | .auxfault _ | .nmi | .irq _ | .irqClear _ | .sysTick | .nvic _ _ _ | .observe _ | .masks _ _ _ | .externalEvent
  | .drain _ _ _ | .entryErrors _ | .takeException _ _ => .environment
  | .core _ _ | .fetch _ _ | .prefetchError | .issueError _ | .fetchViolation _ => .fetch
  | .autoFpca _ | .sev | .wfe | .wfi | .svc | .stir _ _ | .divideByZero | .dataAccess _ _ _ | .coprocessor
  | .illegalEpsr _ | .undefinedInstr | .busError _ _ _ | .bufferableStore _ _ _ | .lazyBusError _
  | .lazyViolation _ | .dataViolation _ _ | .exceptionReturn _ _ _ | .multiAccess _ _ => .execution

/-- The event is an instruction of the core, its fetch included, which a sleeping or locked-up processor does not execute (R184, R304; for the automatic
update of CONTROL.FPCA, the stores of lazy state preservation and prefetching DESIGN CHOICE, logs 36, 30, 32). -/
def isCoreInstruction (e : Event) : Bool := kindOf e != .environment

/-- What the instruction at the PC does, once it is fetched: an instruction in the block is not (R85; log 47). -/
def refuseAtPc (s : State) (go : Result) : Result := if instructionInBlock s.pc then .refused .fetchFromScb else go

/-- What an event does to a processor that is neither asleep nor locked up, or, for an event of the environment, asleep. -/
def performEvent (e : Event) (s : State) : Result :=
  match e with
  | .reset => .next (applyReset s)
  | .auxfault level => eventAuxfault level s
  | .nmi => .next (requestException excNmi s)
  | .irq k => eventIrq k s
  | .irqClear k => eventIrqClear k s
  | .sysTick => .next (requestException excSysTick s)
  | .nvic k en p => eventNvic k en p s
  | .observe r => .next (s.observe r)
  | .masks pm bf p => .next { s with primaskHolds := pm, maskedHolds := bf, maskPriority := p }
  | .core pc sp => eventCore pc sp s
  | .autoFpca v => .next (eventAutoFpca v s)
  | .externalEvent => .next (signalEvent s)
  | .sev => .next (signalEvent s)
  | .wfe => .next (eventWfe s)
  | .wfi => .next (fallAsleep .wfi s)
  | .svc => .next (requestException excSvCall s)
  | .stir p k => eventStir p k s
  | .divideByZero => .next (eventDivideByZero s)
  | .dataAccess m sz a => eventDataAccess m sz a s
  | .coprocessor => .next (reportFault .nocp .none s)
  | .illegalEpsr u => .next (eventIllegalEpsr u s)
  | .undefinedInstr => .next (reportFault .undefinstr .none s)
  | .prefetchError => .next s
  | .issueError sz => eventFetchFault .ibuserr sz s
  | .busError load sz a => singleOutsideBlock sz a (preciseBusError load a s)
  | .bufferableStore sz a f => eventBufferableStore sz a f s
  | .drain i f next => eventDrain i f next s
  | .lazyBusError a => singleOutsideBlock .word a (eventLazyFault .lsperr a s)
  | .lazyViolation a => singleOutsideBlock .word a (eventLazyFault .mlsperr a s)
  | .dataViolation sz a => singleOutsideBlock sz a (dataViolation sz a s)
  | .fetchViolation sz => eventFetchFault .iaccviol sz s
  | .entryErrors es => .next { s with entryErrors := es }
  | .takeException m next => .next (eventTakeException m next s)
  | .exceptionReturn th v u => .next (exceptionReturn th v u s)
  | .fetch a sz => refuseInBlock a sz.bytes .fetchFromScb (.next s)
  | .multiAccess a words => eventMultiAccess a words s

/-- An event in lock-up: reset ends it, an instruction never comes, and any other event finds a block whose registers do not change (R304;
DESIGN CHOICE, log 26). -/
def lockedUpEvent (e : Event) (s : State) : Result :=
  if e = .reset then .next (applyReset s) else if isCoreInstruction e then .fault .lockUp else .next s

/-- An event as the state of the processor lets it act: a sleeping processor executes no instruction (R184; log 32), and none is executed from the block,
however the PC came to be there (R85; log 47). -/
def stepEvent (e : Event) (s : State) : Result :=
  if s.lockedUp then lockedUpEvent e s
  else if s.power ≠ .running ∧ isCoreInstruction e = true then .refused .processorAsleep
  else if kindOf e = .execution then refuseAtPc s (performEvent e s)
  else performEvent e s

end Sys2Proof.Machine
end

