-- ==== Sys2Proof/Decode.lean ====
section
/-! DEFINITION. From the bytes of an operation to an instruction (R101, R102), total and rejecting by name, and back: the encoder.

The bytes of an operation are this model's own layout of the spec's own descriptor (log 2): bytes 0 to 3 the address, byte 4 the rest of
the descriptor T of R101 (bit 3 priv, bit 2 dir, bits 1:0 sz; bits 7:4 zero), bytes 5 to 8 the data, each low byte first. -/

namespace Sys2Proof

/-- Why nine bytes, or an access, are no operation of the block. -/
inductive DecodeError where
  | wrongLength       -- not the nine bytes of an operation
  | paddingSet        -- a 1 above bit 35 of the descriptor
  | unusedSize        -- sz = 0b11, "not used" (R101)
  | badData           -- a read with data, or data wider than the access
  | unsupportedAccess -- a listed register, but a size or an alignment it does not allow (R75)
  | notScbOperation   -- no register of the block at the address (R72)
deriving DecidableEq, Repr

/-- The size a descriptor's sz field names (R101). -/
def sizeOfField (f : BitVec 2) : Option Size :=
  if f = 0b00#2 then some .byte
  else if f = 0b01#2 then some .half
  else if f = 0b10#2 then some .word
  else none

/-- The sz field of a size (R101). -/
def fieldOfSize : Size → BitVec 2
  | .byte => 0b00#2
  | .half => 0b01#2
  | .word => 0b10#2

/-- Four bytes as a word, the first the least significant. -/
def wordOfBytes (b0 b1 b2 b3 : Byte) : Word := b3 ++ b2 ++ b1 ++ b0

/-- Byte `k` of a word, byte 0 the least significant. -/
def byteOfWord (w : Word) (k : Nat) : Byte := w.extractLsb' (8 * k) 8

/-- The access that the bytes of an operation describe (R101). -/
def decodeAccess : List Byte → Except DecodeError Access
  | [a0, a1, a2, a3, t, d0, d1, d2, d3] =>
    if t.extractLsb' 4 4 ≠ 0#4 then .error .paddingSet
    else match sizeOfField (t.extractLsb' 0 2) with
      | none => .error .unusedSize
      | some sz => .ok
        { priv := t.getLsbD 3
          dir := if t.getLsbD 2 then .write else .read
          size := sz
          addr := wordOfBytes a0 a1 a2 a3
          data := wordOfBytes d0 d1 d2 d3 }
  | _ => .error .wrongLength

/-- One row of the opcode table: what of the descriptor selects it (`(T & mask) = match`: direction, size and address, not priv), and the operation it stands for. -/
structure Row where
  /-- Direction, from bit 34 of `match`. -/
  dir : Dir
  /-- Size, from bits 33:32 of `match`. -/
  size : Size
  /-- Address, from bits 31:0 of `match`. -/
  addr : Word
  /-- The operation, from the privilege and the zero-extended data. -/
  make : Bool → Word → Instr

/-- The rows of the word forms of R110. -/
def wordRows : List Row :=
  [ ⟨.read, .word, 0xE000E008#32, fun p _ => .rdActlr p⟩
  , ⟨.write, .word, 0xE000E008#32, fun p v => .wrActlr p v⟩
  , ⟨.read, .word, 0xE000ED00#32, fun p _ => .rdCpuid p⟩
  , ⟨.write, .word, 0xE000ED00#32, fun p v => .wrCpuid p v⟩
  , ⟨.read, .word, 0xE000ED04#32, fun p _ => .rdIcsr p⟩
  , ⟨.write, .word, 0xE000ED04#32, fun p v => .wrIcsr p v⟩
  , ⟨.read, .word, 0xE000ED08#32, fun p _ => .rdVtor p⟩
  , ⟨.write, .word, 0xE000ED08#32, fun p v => .wrVtor p v⟩
  , ⟨.read, .word, 0xE000ED0C#32, fun p _ => .rdAircr p⟩
  , ⟨.write, .word, 0xE000ED0C#32, fun p v => .wrAircr p v⟩
  , ⟨.read, .word, 0xE000ED10#32, fun p _ => .rdScr p⟩
  , ⟨.write, .word, 0xE000ED10#32, fun p v => .wrScr p v⟩
  , ⟨.read, .word, 0xE000ED14#32, fun p _ => .rdCcr p⟩
  , ⟨.write, .word, 0xE000ED14#32, fun p v => .wrCcr p v⟩
  , ⟨.read, .word, 0xE000ED18#32, fun p _ => .rdShpr1 p⟩
  , ⟨.write, .word, 0xE000ED18#32, fun p v => .wrShpr1 p v⟩
  , ⟨.read, .word, 0xE000ED1C#32, fun p _ => .rdShpr2 p⟩
  , ⟨.write, .word, 0xE000ED1C#32, fun p v => .wrShpr2 p v⟩
  , ⟨.read, .word, 0xE000ED20#32, fun p _ => .rdShpr3 p⟩
  , ⟨.write, .word, 0xE000ED20#32, fun p v => .wrShpr3 p v⟩
  , ⟨.read, .word, 0xE000ED24#32, fun p _ => .rdShcsr p⟩
  , ⟨.write, .word, 0xE000ED24#32, fun p v => .wrShcsr p v⟩
  , ⟨.read, .word, 0xE000ED28#32, fun p _ => .rdCfsr p⟩
  , ⟨.write, .word, 0xE000ED28#32, fun p v => .wrCfsr p v⟩
  , ⟨.read, .word, 0xE000ED2C#32, fun p _ => .rdHfsr p⟩
  , ⟨.write, .word, 0xE000ED2C#32, fun p v => .wrHfsr p v⟩
  , ⟨.read, .word, 0xE000ED34#32, fun p _ => .rdMmfar p⟩
  , ⟨.write, .word, 0xE000ED34#32, fun p v => .wrMmfar p v⟩
  , ⟨.read, .word, 0xE000ED38#32, fun p _ => .rdBfar p⟩
  , ⟨.write, .word, 0xE000ED38#32, fun p v => .wrBfar p v⟩
  , ⟨.read, .word, 0xE000ED3C#32, fun p _ => .rdAfsr p⟩
  , ⟨.write, .word, 0xE000ED3C#32, fun p v => .wrAfsr p v⟩ ]

/-- The rows of the sub-word forms of SHPR1 to SHPR3 (R110, R208). -/
def shprRows : List Row :=
  [ ⟨.read, .byte, 0xE000ED18#32, fun p _ => .rdbPri4 p⟩
  , ⟨.write, .byte, 0xE000ED18#32, fun p v => .wrbPri4 p (v.setWidth 8)⟩
  , ⟨.read, .byte, 0xE000ED19#32, fun p _ => .rdbPri5 p⟩
  , ⟨.write, .byte, 0xE000ED19#32, fun p v => .wrbPri5 p (v.setWidth 8)⟩
  , ⟨.read, .byte, 0xE000ED1A#32, fun p _ => .rdbPri6 p⟩
  , ⟨.write, .byte, 0xE000ED1A#32, fun p v => .wrbPri6 p (v.setWidth 8)⟩
  , ⟨.read, .byte, 0xE000ED1B#32, fun p _ => .rdbShpr1B3 p⟩
  , ⟨.write, .byte, 0xE000ED1B#32, fun p v => .wrbShpr1B3 p (v.setWidth 8)⟩
  , ⟨.read, .half, 0xE000ED18#32, fun p _ => .rdhShpr1Lo p⟩
  , ⟨.write, .half, 0xE000ED18#32, fun p v => .wrhShpr1Lo p (v.setWidth 16)⟩
  , ⟨.read, .half, 0xE000ED1A#32, fun p _ => .rdhShpr1Hi p⟩
  , ⟨.write, .half, 0xE000ED1A#32, fun p v => .wrhShpr1Hi p (v.setWidth 16)⟩
  , ⟨.read, .byte, 0xE000ED1C#32, fun p _ => .rdbShpr2B0 p⟩
  , ⟨.write, .byte, 0xE000ED1C#32, fun p v => .wrbShpr2B0 p (v.setWidth 8)⟩
  , ⟨.read, .byte, 0xE000ED1D#32, fun p _ => .rdbShpr2B1 p⟩
  , ⟨.write, .byte, 0xE000ED1D#32, fun p v => .wrbShpr2B1 p (v.setWidth 8)⟩
  , ⟨.read, .byte, 0xE000ED1E#32, fun p _ => .rdbShpr2B2 p⟩
  , ⟨.write, .byte, 0xE000ED1E#32, fun p v => .wrbShpr2B2 p (v.setWidth 8)⟩
  , ⟨.read, .byte, 0xE000ED1F#32, fun p _ => .rdbPri11 p⟩
  , ⟨.write, .byte, 0xE000ED1F#32, fun p v => .wrbPri11 p (v.setWidth 8)⟩
  , ⟨.read, .half, 0xE000ED1C#32, fun p _ => .rdhShpr2Lo p⟩
  , ⟨.write, .half, 0xE000ED1C#32, fun p v => .wrhShpr2Lo p (v.setWidth 16)⟩
  , ⟨.read, .half, 0xE000ED1E#32, fun p _ => .rdhShpr2Hi p⟩
  , ⟨.write, .half, 0xE000ED1E#32, fun p v => .wrhShpr2Hi p (v.setWidth 16)⟩
  , ⟨.read, .byte, 0xE000ED20#32, fun p _ => .rdbShpr3B0 p⟩
  , ⟨.write, .byte, 0xE000ED20#32, fun p v => .wrbShpr3B0 p (v.setWidth 8)⟩
  , ⟨.read, .byte, 0xE000ED21#32, fun p _ => .rdbShpr3B1 p⟩
  , ⟨.write, .byte, 0xE000ED21#32, fun p v => .wrbShpr3B1 p (v.setWidth 8)⟩
  , ⟨.read, .byte, 0xE000ED22#32, fun p _ => .rdbPri14 p⟩
  , ⟨.write, .byte, 0xE000ED22#32, fun p v => .wrbPri14 p (v.setWidth 8)⟩
  , ⟨.read, .byte, 0xE000ED23#32, fun p _ => .rdbPri15 p⟩
  , ⟨.write, .byte, 0xE000ED23#32, fun p v => .wrbPri15 p (v.setWidth 8)⟩
  , ⟨.read, .half, 0xE000ED20#32, fun p _ => .rdhShpr3Lo p⟩
  , ⟨.write, .half, 0xE000ED20#32, fun p v => .wrhShpr3Lo p (v.setWidth 16)⟩
  , ⟨.read, .half, 0xE000ED22#32, fun p _ => .rdhShpr3Hi p⟩
  , ⟨.write, .half, 0xE000ED22#32, fun p v => .wrhShpr3Hi p (v.setWidth 16)⟩ ]

/-- The rows of the sub-word forms of CFSR (R110, R266). -/
def cfsrRows : List Row :=
  [ ⟨.read, .byte, 0xE000ED28#32, fun p _ => .rdbMmfsr p⟩
  , ⟨.write, .byte, 0xE000ED28#32, fun p v => .wrbMmfsr p (v.setWidth 8)⟩
  , ⟨.read, .byte, 0xE000ED29#32, fun p _ => .rdbBfsr p⟩
  , ⟨.write, .byte, 0xE000ED29#32, fun p v => .wrbBfsr p (v.setWidth 8)⟩
  , ⟨.read, .byte, 0xE000ED2A#32, fun p _ => .rdbUfsrLo p⟩
  , ⟨.write, .byte, 0xE000ED2A#32, fun p v => .wrbUfsrLo p (v.setWidth 8)⟩
  , ⟨.read, .byte, 0xE000ED2B#32, fun p _ => .rdbUfsrHi p⟩
  , ⟨.write, .byte, 0xE000ED2B#32, fun p v => .wrbUfsrHi p (v.setWidth 8)⟩
  , ⟨.read, .half, 0xE000ED28#32, fun p _ => .rdhCfsrLo p⟩
  , ⟨.write, .half, 0xE000ED28#32, fun p v => .wrhCfsrLo p (v.setWidth 16)⟩
  , ⟨.read, .half, 0xE000ED2A#32, fun p _ => .rdhUfsr p⟩
  , ⟨.write, .half, 0xE000ED2A#32, fun p v => .wrhUfsr p (v.setWidth 16)⟩ ]

/-- The 80 rows of R110, in the order of spec/opcode_table.json. -/
def opcodeTable : List Row := wordRows ++ shprRows ++ cfsrRows

/-- The row matches the access (R101, R102). -/
def Row.selects (r : Row) (a : Access) : Bool := r.dir == a.dir && r.size == a.size && r.addr == a.addr

/-- Decoding an access, total on every tuple (R102): the row's operation; an access at a listed register that no row matches is unsupported (R75); any other is not an SCB operation (R72). -/
def decodeRow (a : Access) : Except DecodeError Instr :=
  match opcodeTable.find? fun r => r.selects a with
  | some r => if a.dataFits && a.readCarriesNone then .ok (r.make a.priv a.data) else .error .badData
  | none => if isListed a.addr then .error .unsupportedAccess else .error .notScbOperation

/-- The operation that bytes stand for. -/
def decode (bytes : List Byte) : Except DecodeError Instr :=
  match decodeAccess bytes with
  | .error e => .error e
  | .ok a => decodeRow a

/-- The access of an operation: the rows of R110 read from the operation's side. -/
def Instr.access : Instr → Access
  | .rdActlr p => ⟨p, .read, .word, 0xE000E008#32, 0#32⟩
  | .wrActlr p v => ⟨p, .write, .word, 0xE000E008#32, v⟩
  | .rdCpuid p => ⟨p, .read, .word, 0xE000ED00#32, 0#32⟩
  | .wrCpuid p v => ⟨p, .write, .word, 0xE000ED00#32, v⟩
  | .rdIcsr p => ⟨p, .read, .word, 0xE000ED04#32, 0#32⟩
  | .wrIcsr p v => ⟨p, .write, .word, 0xE000ED04#32, v⟩
  | .rdVtor p => ⟨p, .read, .word, 0xE000ED08#32, 0#32⟩
  | .wrVtor p v => ⟨p, .write, .word, 0xE000ED08#32, v⟩
  | .rdAircr p => ⟨p, .read, .word, 0xE000ED0C#32, 0#32⟩
  | .wrAircr p v => ⟨p, .write, .word, 0xE000ED0C#32, v⟩
  | .rdScr p => ⟨p, .read, .word, 0xE000ED10#32, 0#32⟩
  | .wrScr p v => ⟨p, .write, .word, 0xE000ED10#32, v⟩
  | .rdCcr p => ⟨p, .read, .word, 0xE000ED14#32, 0#32⟩
  | .wrCcr p v => ⟨p, .write, .word, 0xE000ED14#32, v⟩
  | .rdShpr1 p => ⟨p, .read, .word, 0xE000ED18#32, 0#32⟩
  | .wrShpr1 p v => ⟨p, .write, .word, 0xE000ED18#32, v⟩
  | .rdShpr2 p => ⟨p, .read, .word, 0xE000ED1C#32, 0#32⟩
  | .wrShpr2 p v => ⟨p, .write, .word, 0xE000ED1C#32, v⟩
  | .rdShpr3 p => ⟨p, .read, .word, 0xE000ED20#32, 0#32⟩
  | .wrShpr3 p v => ⟨p, .write, .word, 0xE000ED20#32, v⟩
  | .rdShcsr p => ⟨p, .read, .word, 0xE000ED24#32, 0#32⟩
  | .wrShcsr p v => ⟨p, .write, .word, 0xE000ED24#32, v⟩
  | .rdCfsr p => ⟨p, .read, .word, 0xE000ED28#32, 0#32⟩
  | .wrCfsr p v => ⟨p, .write, .word, 0xE000ED28#32, v⟩
  | .rdHfsr p => ⟨p, .read, .word, 0xE000ED2C#32, 0#32⟩
  | .wrHfsr p v => ⟨p, .write, .word, 0xE000ED2C#32, v⟩
  | .rdMmfar p => ⟨p, .read, .word, 0xE000ED34#32, 0#32⟩
  | .wrMmfar p v => ⟨p, .write, .word, 0xE000ED34#32, v⟩
  | .rdBfar p => ⟨p, .read, .word, 0xE000ED38#32, 0#32⟩
  | .wrBfar p v => ⟨p, .write, .word, 0xE000ED38#32, v⟩
  | .rdAfsr p => ⟨p, .read, .word, 0xE000ED3C#32, 0#32⟩
  | .wrAfsr p v => ⟨p, .write, .word, 0xE000ED3C#32, v⟩
  | .rdbPri4 p => ⟨p, .read, .byte, 0xE000ED18#32, 0#32⟩
  | .wrbPri4 p v => ⟨p, .write, .byte, 0xE000ED18#32, v.setWidth 32⟩
  | .rdbPri5 p => ⟨p, .read, .byte, 0xE000ED19#32, 0#32⟩
  | .wrbPri5 p v => ⟨p, .write, .byte, 0xE000ED19#32, v.setWidth 32⟩
  | .rdbPri6 p => ⟨p, .read, .byte, 0xE000ED1A#32, 0#32⟩
  | .wrbPri6 p v => ⟨p, .write, .byte, 0xE000ED1A#32, v.setWidth 32⟩
  | .rdbShpr1B3 p => ⟨p, .read, .byte, 0xE000ED1B#32, 0#32⟩
  | .wrbShpr1B3 p v => ⟨p, .write, .byte, 0xE000ED1B#32, v.setWidth 32⟩
  | .rdhShpr1Lo p => ⟨p, .read, .half, 0xE000ED18#32, 0#32⟩
  | .wrhShpr1Lo p v => ⟨p, .write, .half, 0xE000ED18#32, v.setWidth 32⟩
  | .rdhShpr1Hi p => ⟨p, .read, .half, 0xE000ED1A#32, 0#32⟩
  | .wrhShpr1Hi p v => ⟨p, .write, .half, 0xE000ED1A#32, v.setWidth 32⟩
  | .rdbShpr2B0 p => ⟨p, .read, .byte, 0xE000ED1C#32, 0#32⟩
  | .wrbShpr2B0 p v => ⟨p, .write, .byte, 0xE000ED1C#32, v.setWidth 32⟩
  | .rdbShpr2B1 p => ⟨p, .read, .byte, 0xE000ED1D#32, 0#32⟩
  | .wrbShpr2B1 p v => ⟨p, .write, .byte, 0xE000ED1D#32, v.setWidth 32⟩
  | .rdbShpr2B2 p => ⟨p, .read, .byte, 0xE000ED1E#32, 0#32⟩
  | .wrbShpr2B2 p v => ⟨p, .write, .byte, 0xE000ED1E#32, v.setWidth 32⟩
  | .rdbPri11 p => ⟨p, .read, .byte, 0xE000ED1F#32, 0#32⟩
  | .wrbPri11 p v => ⟨p, .write, .byte, 0xE000ED1F#32, v.setWidth 32⟩
  | .rdhShpr2Lo p => ⟨p, .read, .half, 0xE000ED1C#32, 0#32⟩
  | .wrhShpr2Lo p v => ⟨p, .write, .half, 0xE000ED1C#32, v.setWidth 32⟩
  | .rdhShpr2Hi p => ⟨p, .read, .half, 0xE000ED1E#32, 0#32⟩
  | .wrhShpr2Hi p v => ⟨p, .write, .half, 0xE000ED1E#32, v.setWidth 32⟩
  | .rdbShpr3B0 p => ⟨p, .read, .byte, 0xE000ED20#32, 0#32⟩
  | .wrbShpr3B0 p v => ⟨p, .write, .byte, 0xE000ED20#32, v.setWidth 32⟩
  | .rdbShpr3B1 p => ⟨p, .read, .byte, 0xE000ED21#32, 0#32⟩
  | .wrbShpr3B1 p v => ⟨p, .write, .byte, 0xE000ED21#32, v.setWidth 32⟩
  | .rdbPri14 p => ⟨p, .read, .byte, 0xE000ED22#32, 0#32⟩
  | .wrbPri14 p v => ⟨p, .write, .byte, 0xE000ED22#32, v.setWidth 32⟩
  | .rdbPri15 p => ⟨p, .read, .byte, 0xE000ED23#32, 0#32⟩
  | .wrbPri15 p v => ⟨p, .write, .byte, 0xE000ED23#32, v.setWidth 32⟩
  | .rdhShpr3Lo p => ⟨p, .read, .half, 0xE000ED20#32, 0#32⟩
  | .wrhShpr3Lo p v => ⟨p, .write, .half, 0xE000ED20#32, v.setWidth 32⟩
  | .rdhShpr3Hi p => ⟨p, .read, .half, 0xE000ED22#32, 0#32⟩
  | .wrhShpr3Hi p v => ⟨p, .write, .half, 0xE000ED22#32, v.setWidth 32⟩
  | .rdbMmfsr p => ⟨p, .read, .byte, 0xE000ED28#32, 0#32⟩
  | .wrbMmfsr p v => ⟨p, .write, .byte, 0xE000ED28#32, v.setWidth 32⟩
  | .rdbBfsr p => ⟨p, .read, .byte, 0xE000ED29#32, 0#32⟩
  | .wrbBfsr p v => ⟨p, .write, .byte, 0xE000ED29#32, v.setWidth 32⟩
  | .rdbUfsrLo p => ⟨p, .read, .byte, 0xE000ED2A#32, 0#32⟩
  | .wrbUfsrLo p v => ⟨p, .write, .byte, 0xE000ED2A#32, v.setWidth 32⟩
  | .rdbUfsrHi p => ⟨p, .read, .byte, 0xE000ED2B#32, 0#32⟩
  | .wrbUfsrHi p v => ⟨p, .write, .byte, 0xE000ED2B#32, v.setWidth 32⟩
  | .rdhCfsrLo p => ⟨p, .read, .half, 0xE000ED28#32, 0#32⟩
  | .wrhCfsrLo p v => ⟨p, .write, .half, 0xE000ED28#32, v.setWidth 32⟩
  | .rdhUfsr p => ⟨p, .read, .half, 0xE000ED2A#32, 0#32⟩
  | .wrhUfsr p v => ⟨p, .write, .half, 0xE000ED2A#32, v.setWidth 32⟩

/-- The privilege an operation is made with (R100). -/
def Instr.priv (i : Instr) : Bool := i.access.priv

/-- An operation is well formed when its access is. -/
def Instr.wellFormed (i : Instr) : Bool := i.access.wellFormed

/-- Byte 4 of an operation: priv, dir and sz of the descriptor (R101). -/
def descriptorTop (a : Access) : Byte :=
  0#4 ++ BitVec.ofBool a.priv ++ BitVec.ofBool (a.dir == .write) ++ fieldOfSize a.size

/-- The bytes of an access. -/
def encodeAccess (a : Access) : List Byte :=
  [ byteOfWord a.addr 0, byteOfWord a.addr 1, byteOfWord a.addr 2, byteOfWord a.addr 3
  , descriptorTop a
  , byteOfWord a.data 0, byteOfWord a.data 1, byteOfWord a.data 2, byteOfWord a.data 3 ]

/-- The bytes of an operation: the encoder. -/
def encode (i : Instr) : List Byte := encodeAccess i.access

/-- The nine bytes of an operation whose bits are `w`, bit 0 the least significant bit of the first byte. -/
def operationBytes (w : Nat) : List Byte :=
  [ BitVec.ofNat 8 w, BitVec.ofNat 8 (w >>> 8), BitVec.ofNat 8 (w >>> 16), BitVec.ofNat 8 (w >>> 24)
  , BitVec.ofNat 8 (w >>> 32)
  , BitVec.ofNat 8 (w >>> 40), BitVec.ofNat 8 (w >>> 48), BitVec.ofNat 8 (w >>> 56), BitVec.ofNat 8 (w >>> 64) ]

/-- The instruction that the decoder reads from an operation whose bits are `w`, numbered as spec/opcode_table.json numbers them: bits
31:0 the address, bits 35:32 the rest of the descriptor (R101). The table gives a row `_nbits` bits and no data; every bit of `w` above them is 0, which is data of zeros. -/
def decodeTableWord (_nbits w : Nat) : Option Instr :=
  match decode (operationBytes w) with
  | .ok i => some i
  | .error _ => none

end Sys2Proof
end

