-- ==== Sys2Proof/Machine/Fetch.lean ====
section
/-! DEFINITION. The next operation of the program: where the step finds it, and how its bytes are placed there (log 1). -/

namespace Sys2Proof.Machine

/-- The state once the head of the schedule is taken from it. -/
def afterFetch (s : State) : State := { s with schedule := s.schedule.tail }

/-- The bytes of an operation placed at the head of the schedule, where the next step takes them, as the access of an instruction at address 0: an
instruction in the block would not be fetched (R85; DESIGN CHOICE, logs 1, 47). -/
def placeOperation (bytes : List Byte) (s : State) : State :=
  { s with schedule := .access bytes :: s.schedule, pc := 0#32 }

/-- The refusal that answers bytes that are no operation of the block (R72, R75, R100, R101). -/
def refusalOf : DecodeError → Refusal
  | .wrongLength | .paddingSet | .unusedSize | .badData => .malformedOperation
  | .unsupportedAccess => .unsupportedAccess
  | .notScbOperation => .notScbOperation

end Sys2Proof.Machine
end

