-- ==== Sys2Proof/Machine/Step.lean ====
section
/-! DEFINITION. One step of the machine: the AUXFAULT latch, then the head of the schedule. -/

namespace Sys2Proof.Machine

/-- An access of the program: decoded, refused by name where it is no operation, and performed. In lock-up it never comes (R304), asleep neither
(R184), and the instruction that makes it is not one in the block (R85; log 47). Its privilege is a bit of the access, in Handler mode too (R101, R102, R316; DEDUCED, log 49). -/
def stepAccess (bytes : List Byte) (s : State) : Result :=
  if s.lockedUp then .fault .lockUp
  else if s.power ≠ .running then .refused .processorAsleep
  else refuseAtPc s (match decode bytes with
    | .error e => .refused (refusalOf e)
    | .ok i => exec i s)

/-- The AUXFAULT latch of a step that serves `e`: a HIGH input is latched (R264), but not where the input falls before anything else happens: then it
was HIGH only together with what was served last (R263; DESIGN CHOICE, log 31). -/
def latchBefore (e : Event) (s : State) : State :=
  match e with
  | .auxfault _ => s
  | _ => latchAuxfault s

/-- One step: an AUXFAULT input that is HIGH is latched (R264), then the head of the schedule is served (R76, R80; log 1). With an empty schedule
nothing else happens: the processor makes no access to the block (R81). -/
def step (s : State) : Host.Outcome State Fault Refusal :=
  match s.schedule with
  | [] => .next (latchAuxfault s)
  | .access bytes :: _ => stepAccess bytes (latchAuxfault (afterFetch s))
  | .event e :: _ => stepEvent e (latchBefore e (afterFetch s))

/-- The operation whose bits are `w` (data bits zero) placed where the next step takes it: the head of the schedule, as the access of an instruction
outside the block. The next step performs it when the processor is neither asleep nor locked up, as it is after reset. -/
def State.withFetchWord (s : State) (_nbits w : Nat) : State := placeOperation (operationBytes w) s

end Sys2Proof.Machine
end

