-- ==== Sys2Proof/Machine/Idioms.lean ====
section
/-! DEFINITION. The software idioms of R111: what a program writes, from what it has read. They are sequences of two operations, not atomic. -/

namespace Sys2Proof.Machine

/-- `SETBITS`: the word to write back after reading `t`, with the bits `m` set (R111). -/
def setBits (t m : Word) : Word := t ||| m

/-- `CLRBITS`: the word to write back after reading `t`, with the bits `m` cleared (R111). -/
def clrBits (t m : Word) : Word := t &&& ~~~m

/-- `CLRFLAG` for HFSR: the flags `m` are cleared by writing them as 1, no read needed (R111). -/
def clrFlagHfsr (m : Word) : Instr := .wrHfsr true m

/-- `CLRFLAG` for AFSR (R111). -/
def clrFlagAfsr (m : Word) : Instr := .wrAfsr true m

/-- `CLRFLAG` for CFSR, under CFSR_WRITE = rc_w1 (R111). -/
def clrFlagCfsr (m : Word) : Instr := .wrCfsr true m

/-- `SETPRIGROUP g` (R111). -/
def setPrigroup (g : BitVec 3) : Instr := .wrAircr true (fieldAt Config.aircrWriteKey 16 ||| fieldAt g 8)

/-- `SYSRESET`, after reading AIRCR as `t`: the reset request, with PRIGROUP preserved (R111). -/
def sysReset (t : Word) : Instr :=
  .wrAircr true (fieldAt Config.aircrWriteKey 16 ||| (t &&& 0x00000700#32) ||| 0x00000004#32)

/-- `GETFAULTADDR`: the address read first is valid if bit 7 of the status byte read second is 1 (R111, R392). -/
def faultAddrValid (status : Byte) : Bool := status.getLsbD 7

end Sys2Proof.Machine
end

