-- ==== Sys2Proof/Safety.lean ====
section
/-! DEFINITION. The terms in which claims about the machine are made: what an access answers, what the bits of a word are, what the exception
logic may change, the invariant of the state. -/

namespace Sys2Proof.Machine

/-- The access returns `d` and changes nothing else. -/
def Answers (r : Result) (s : State) (d : ReadData) : Prop := r = .next { s with readData := some d }

/-- The access is performed and returns `d`. -/
def Returns (r : Result) (d : ReadData) : Prop := ∃ t, r = .next t ∧ t.readData = some d

/-- The access is performed, returns no data, and leaves the state `t` otherwise. -/
def Performs (r : Result) (t : State) : Prop := r = .next { t with readData := none }

/-- Bit `i` of `v` is the bit listed for position `i`, and 0 where none is listed. -/
def BitsAre (v : Word) (l : List (Nat × Bool)) : Prop :=
  ∀ i, i < 32 → v.getLsbD i = l.any fun p => p.1 == i && p.2

/-- A write of `v` that carries no 1 in a reserved position is performed, with the state `t`; one that does is performed all the same under
RESERVED_WRITE = ignore, and refused under RESERVED_WRITE = refuse (R40, R13; DESIGN CHOICE, log 6). -/
def PerformsUnlessReserved (r : Result) (s : State) (v reserved : Word) (t : State) : Prop :=
  (v &&& reserved = 0#32 ∨ s.params.reservedWrite = .ignore → Performs r t) ∧
  (v &&& reserved ≠ 0#32 → s.params.reservedWrite = .refuse → r = .refused .reservedBitWritten)

/-- The bits of a field whose bit 0 stands at position `lo` of the word (R104). -/
def fieldBits {w : Nat} (lo : Nat) (v : BitVec w) : List (Nat × Bool) := (List.range w).map fun k => (lo + k, v.getLsbD k)

/-- The flags `c` are those of `s` after a write of `v` to the `n` bits of CFSR from position `lo` on, in the mode CFSR_WRITE of `s`: outside
the lane they are unchanged; in it a 1 clears (rc_w1), or the defined bits take the value written (rw) (R231, R12). -/
def CfsrLaneWritten (s : State) (lo n : Nat) (v : Word) (c : Cfsr) : Prop :=
  ∀ i, i < 32 → (cfsrWord c).getLsbD i =
    if lo ≤ i ∧ i < lo + n then
      match s.params.cfsrWrite with
      | .rcW1 => (cfsrWord s.cfsr).getLsbD i && !v.getLsbD (i - lo)
      | .rw => v.getLsbD (i - lo) && cfsrDefined.getLsbD i
    else (cfsrWord s.cfsr).getLsbD i

/-- The flag of a cause in CFSR (R301). -/
def cfsrHas (f : Cfsr) : Cause → Bool
  | .divbyzero => f.divbyzero
  | .unaligned => f.unaligned
  | .nocp => f.nocp
  | .invpc => f.invpc
  | .invstate => f.invstate
  | .undefinstr => f.undefinstr
  | .lsperr => f.lsperr
  | .stkerr => f.stkerr
  | .unstkerr => f.unstkerr
  | .impreciserr => f.impreciserr
  | .preciserr => f.preciserr
  | .ibuserr => f.ibuserr
  | .mlsperr => f.mlsperr
  | .mstkerr => f.mstkerr
  | .munstkerr => f.munstkerr
  | .daccviol => f.daccviol
  | .iaccviol => f.iaccviol

/-- The fields that configure the block and the request for a reset are those of `s` (R47): what no fault, entry or return changes. -/
structure SameConfig (s t : State) : Prop where
  actlr : t.actlr = s.actlr
  tbloff : t.tbloff = s.tbloff
  prigroup : t.prigroup = s.prigroup
  scr : t.scr = s.scr
  ccr : t.ccr = s.ccr
  pri : t.pri = s.pri
  ena : t.ena = s.ena
  sysresetreq : t.sysresetreq = s.sysresetreq
  params : t.params = s.params

/-- What else no fault, entry or return changes: the fields that the processor acts on, AFSR, the inputs, the NVIC's and the masks' values, and
what belongs to accesses. -/
structure SameRest (s t : State) : Prop where
  seen : t.seen = s.seen
  afsr : t.afsr = s.afsr
  auxfault : t.auxfault = s.auxfault
  nvicEnabled : t.nvicEnabled = s.nvicEnabled
  nvicPrio : t.nvicPrio = s.nvicPrio
  primaskHolds : t.primaskHolds = s.primaskHolds
  maskedHolds : t.maskedHolds = s.maskedHolds
  maskPriority : t.maskPriority = s.maskPriority
  eventRegister : t.eventRegister = s.eventRegister
  fpca : t.fpca = s.fpca
  writeBuffer : t.writeBuffer = s.writeBuffer
  readData : t.readData = s.readData
  schedule : t.schedule = s.schedule

/-- MMFAR and BFAR and their VALID bits are those of `s`. -/
structure AddressesKept (s t : State) : Prop where
  bfar : t.bfar = s.bfar
  bfarvalid : t.cfsr.bfarvalid = s.cfsr.bfarvalid
  mmfar : t.mmfar = s.mmfar
  mmarvalid : t.cfsr.mmarvalid = s.cfsr.mmarvalid

/-- A fault of class `n` has put its address `x` in the address register of its class, under its VALID bit, and the other class's is as in `s`, or its
VALID bit is 0 (R302, R267); the usage fault has no address register. -/
structure AddressWritten (n : Nat) (x : Word) (s t : State) : Prop where
  bus : n = excBusFault → t.bfar = x ∧ t.cfsr.bfarvalid = true ∧
    (t.mmfar = s.mmfar ∧ t.cfsr.mmarvalid = s.cfsr.mmarvalid ∨ t.cfsr.mmarvalid = false)
  mem : n = excMemManage → t.mmfar = x ∧ t.cfsr.mmarvalid = true ∧
    (t.bfar = s.bfar ∧ t.cfsr.bfarvalid = s.cfsr.bfarvalid ∨ t.cfsr.bfarvalid = false)
  usage : n = excUsageFault → AddressesKept s t

/-- What the report of a fault of class `n` leaves in the address registers (R302): nothing new without an address, its address where it has one, and one
of the two where whether it is recorded is not stated. -/
def AddressRecorded (n : Nat) (a : FaultAddr) (s t : State) : Prop :=
  match a with
  | .none => AddressesKept s t
  | .known x => AddressWritten n x s t
  | .unspecified x => AddressesKept s t ∨ AddressWritten n x s t

/-- The record that a fault of cause `c` leaves in the status registers: its flag, no other flag, and its address (R302). -/
structure Recorded (c : Cause) (a : FaultAddr) (s t : State) : Prop where
  flag : cfsrHas t.cfsr c = true
  others : ∀ d, d ≠ c → cfsrHas t.cfsr d = cfsrHas s.cfsr d
  address : AddressRecorded (causeClass c) a s t

/-- The four exceptions that faults raise: 3, 4, 5, 6 (R300). -/
def isFaultExc (n : Nat) : Prop := n = excHardFault ∨ n = excMemManage ∨ n = excBusFault ∨ n = excUsageFault

/-- What the exception logic may do to the status registers and the exception arrays (R324): flags are only set; an exception becomes pending only if it
is one that faults raise; it becomes active only then or when it was pending; an address register keeps its value, or its VALID bit
is 0, or an address of its class was recorded. -/
structure Evolves (s t : State) : Prop where
  config : SameConfig s t
  rest : SameRest s t
  flags : ∀ c, cfsrHas s.cfsr c = true → cfsrHas t.cfsr c = true
  debugVt : t.hfsr.debugVt = s.hfsr.debugVt
  forced : s.hfsr.forced = true → t.hfsr.forced = true
  vecttbl : s.hfsr.vecttbl = true → t.hfsr.vecttbl = true
  pending : ∀ n, t.isPending n = true → s.isPending n = true ∨ isFaultExc n
  active : ∀ n, t.isActive n = true → s.isActive n = true ∨ s.isPending n = true ∨ isFaultExc n
  bfar : t.bfar = s.bfar ∨ t.cfsr.bfarvalid = false ∨ t.cfsr.preciserr = true ∨ t.cfsr.lsperr = true
  bfarvalid : t.cfsr.bfarvalid = true → s.cfsr.bfarvalid = true ∨ t.cfsr.preciserr = true ∨ t.cfsr.lsperr = true
  mmfar : t.mmfar = s.mmfar ∨ t.cfsr.mmarvalid = false ∨ t.cfsr.daccviol = true ∨ t.cfsr.mlsperr = true
  mmarvalid : t.cfsr.mmarvalid = true → s.cfsr.mmarvalid = true ∨ t.cfsr.daccviol = true ∨ t.cfsr.mlsperr = true

/-- No one of the `n` bytes from `a` on lies in a register of the block (R70). -/
abbrev OutsideBlock (a : Word) (n : Nat) : Prop := ∀ k, k < n → isListed (a + BitVec.ofNat 32 k) = false

/-- `t` is `s` after the handler of `n` was entered without an error: the frame of the state before is on the stack, the vector of `n` was read
from the table at VTOR and is the new PC, `n` is active and no longer pending, IPSR is its number (R305, R311, R86, R157). -/
structure Entered (n : Nat) (s t : State) : Prop where
  ipsr : t.ipsr = BitVec.ofNat 9 n
  active : ∀ m, m < 128 → t.isActive m = (s.isActive m || m == n)
  notPending : t.isPending n = false
  frame : ∃ f, t.frames = f :: s.frames ∧ f.pc = s.pc ∧ f.exc = s.ipsr ∧ t.sp = f.addr
  vector : t.vectorFetch = some { base := fieldAt s.seen.tbloff 9, sram := s.seen.tbloff.getLsbD 20, exc := n }
  handler : ∃ d, t.pc = Config.vectorWord (fieldAt s.seen.tbloff 9) n d
  running : t.power = .running
  notLockedUp : t.lockedUp = s.lockedUp

/-- The exception arrays hold only numbers that the machine has: 1 to 15 + NUM_IRQ (R41, R9). -/
abbrev ExcInRange (s : State) : Prop :=
  ∀ n, n < 128 → s.isPending n = true ∨ s.isActive n = true → 1 ≤ n ∧ n ≤ 15 + s.params.numIrq.val

/-- The invariant of the state: the arrays in range (R41), and no debug event ever recorded (R253, R321). -/
abbrev Inv (s : State) : Prop := ExcInRange s ∧ s.hfsr.debugVt = false

/-- The exceptions whose priority a field of the block or of the NVIC holds: neither NMI nor the hard fault (R300, R308). -/
def isConfigurable (n : Nat) : Prop := n ≠ excNmi ∧ n ≠ excHardFault

end Sys2Proof.Machine
end

