-- ==== Sys2Proof/Certificates/Slice0/Obligations.lean ====
section
/-! DEFINITION. The statements for the provers: encoding, steps, invariants, every operation of the block, the exception logic. -/

open Sys2Proof Sys2Proof.Machine

/-! ## Decoding and encoding (R100 to R102, R70 to R75) -/

/-- Decoding the bytes of any operation gives it back, whatever its privilege and its data: no bit of an operation is dropped. The byte layout is
the model's own (log 2). -/
def Obligations.EncodedOperationDecodesToItself : Prop :=
  ∀ i : Instr, decode (encode i) = .ok i

/-- The only bytes that decode to an operation are its encoding: every bit of the nine bytes has a meaning (log 2). -/
def Obligations.DecodedBytesAreTheEncoding : Prop :=
  ∀ (bytes : List Byte) (i : Instr), decode bytes = .ok i → encode i = bytes

/-- Five operations written out as nine bytes decode to what they stand for: RD.CCR, WR.AIRCR 0x05FA0300, WRB.PRI_5 0x5F, RDH.UFSR unprivileged,
WRH.CFSR_LO 0x8200. The order of the bytes, and that the data follow the descriptor, are the model's own choice (log 2); the descriptors in them are
those of R101 and R110. -/
def Obligations.WrittenOutBytesDecode : Prop :=
  decode [0x14#8, 0xED#8, 0x00#8, 0xE0#8, 0x0A#8, 0x00#8, 0x00#8, 0x00#8, 0x00#8] = .ok (.rdCcr true) ∧
  decode [0x0C#8, 0xED#8, 0x00#8, 0xE0#8, 0x0E#8, 0x00#8, 0x03#8, 0xFA#8, 0x05#8] = .ok (.wrAircr true 0x05FA0300#32) ∧
  decode [0x19#8, 0xED#8, 0x00#8, 0xE0#8, 0x0C#8, 0x5F#8, 0x00#8, 0x00#8, 0x00#8] = .ok (.wrbPri5 true 0x5F#8) ∧
  decode [0x2A#8, 0xED#8, 0x00#8, 0xE0#8, 0x01#8, 0x00#8, 0x00#8, 0x00#8, 0x00#8] = .ok (.rdhUfsr false) ∧
  decode [0x28#8, 0xED#8, 0x00#8, 0xE0#8, 0x0D#8, 0x00#8, 0x82#8, 0x00#8, 0x00#8] = .ok (.wrhCfsrLo true 0x8200#16)

/-- The opcode table and the address map agree: an access is an operation of the table exactly when the map allows its address, alignment and
size and its data fit (R70, R74, R100), and the operation is that access. -/
def Obligations.TableHoldsExactlyTheAllowedAccesses : Prop :=
  ∀ a : Access, (∃ i, decodeRow a = .ok i ∧ i.access = a) ↔ a.wellFormed = true

/-- An access that is no operation is refused by name by the step that meets it: not an operation of the block where no register is at the address (R72),
unsupported where a register is, but of another size or alignment (R75). The refusals are the spec's decisions D2 and D3. The instruction that makes
the access is one outside the block (R85; that it has at most four bytes is PRESUMED, log 47). -/
def Obligations.StepRefusesAccessesOutsideTheMap : Prop :=
  ∀ (s : State) (a : Access) (rest : List Stimulus),
    s.lockedUp = false → s.power = .running → OutsideBlock s.pc 4 →
    s.schedule = .access (encodeAccess a) :: rest →
    (isListed a.addr = false → step s = .refused .notScbOperation) ∧
    (isListed a.addr = true → (a.aligned && a.sizeAllowed) = false → step s = .refused .unsupportedAccess)

/-! ## The step -/

/-- A step runs the decoded operation: when the bytes at the head of the schedule decode to `i`, the step is `exec i` at the state with the head taken
and the AUXFAULT inputs latched (R264), in Thread mode and in Handler mode, privileged or not (R102; log 49), where the instruction at the PC is fetched
from outside the block; from the block it is refused (R85, D20; that an instruction has at most four bytes is PRESUMED, log 47). That a step serves the
head of a schedule, and latches the inputs first, is the model's own choice (logs 1, 31). -/
def Obligations.StepRunsTheDecodedOperation : Prop :=
  ∀ (s : State) (bytes : List Byte) (rest : List Stimulus) (i : Instr),
    s.lockedUp = false → s.power = .running → s.schedule = .access bytes :: rest → decode bytes = .ok i →
    (OutsideBlock s.pc 4 →
      step s = exec i { s with schedule := rest, afsr := s.afsr ||| s.auxfault }) ∧
    (∀ k, k < 4 → isListed (s.pc + BitVec.ofNat 32 k) = true → step s = .refused .fetchFromScb)

/-- A step serves an event at the head of the schedule: a running processor, and for an event of the environment a sleeping one too, performs it at
the state with the head taken and the AUXFAULT inputs latched, or, where the event is a change of those inputs, with the head taken alone (R264; that
and the schedule are the model's own choice, logs 1, 31, 32). What the instruction at the PC does is performed only if that instruction lies outside the
block, and is refused else: it would be fetched from the block (R85, D20; that it has at most four bytes is PRESUMED, log 47). -/
def Obligations.StepPerformsTheEvent : Prop :=
  ∀ (s : State) (e : Event) (rest : List Stimulus),
    s.lockedUp = false → s.power = .running ∨ isCoreInstruction e = false → s.schedule = .event e :: rest →
    ((∀ level, e ≠ .auxfault level) → kindOf e ≠ .execution ∨ OutsideBlock s.pc 4 →
      step s = performEvent e { s with schedule := rest, afsr := s.afsr ||| s.auxfault }) ∧
    (∀ level, e = .auxfault level → step s = performEvent e { s with schedule := rest }) ∧
    (kindOf e = .execution → ∀ k, k < 4 → isListed (s.pc + BitVec.ofNat 32 k) = true → step s = .refused .fetchFromScb)

/-- In lock-up no access and no instruction is performed, and no event but a reset changes any register: the state is terminal (R304; the spec's decision
D22, log 26). -/
def Obligations.LockUpIsTerminalUntilReset : Prop :=
  ∀ s : State, s.lockedUp = true →
    (∀ bytes rest, s.schedule = .access bytes :: rest → step s = .fault .lockUp) ∧
    (∀ e rest, s.schedule = .event e :: rest → e ≠ .reset →
      step s = .fault .lockUp ∨ step s = .next { s with schedule := rest }) ∧
    (s.schedule = [] → step s = .next s)

/-! ## Invariants of every step -/

/-- Every step keeps the invariant: no exception number that the machine does not have is ever pending or active (R41, R9), and no debug event is ever
recorded: the processor is never in Debug (R253, R321), the spec's decision D17 (DESIGN CHOICE, log 40). -/
def Obligations.StepKeepsTheInvariant : Prop :=
  ∀ s t : State, Inv s → step s = .next t → Inv t

/-- The state after reset satisfies the invariant (R381). That nothing is pending or active for the exceptions without a window is the spec's decision
D23 (DESIGN CHOICE, log 19), that DEBUG_VT is never set its decision D17 (DESIGN CHOICE, log 40). -/
def Obligations.ResetHasTheInvariant : Prop := Inv State.reset

/-- The only step that makes PendSV pending is a privileged write of ICSR with PENDSVSET = 1. -/
def Obligations.PendSvBecomesPendingOnlyThroughIcsr : Prop :=
  ∀ s t : State, step s = .next t → s.isPending 14 = false → t.isPending 14 = true →
    ∃ bytes rest v, s.schedule = .access bytes :: rest ∧ decode bytes = .ok (.wrIcsr true v) ∧ v.getLsbD 28 = true

/-- The exception logic never clears a status bit: in every step that serves an event other than reset, each cause flag of CFSR that is 1 stays 1, and so
do FORCED and VECTTBL; AFSR keeps its bits. -/
def Obligations.EventsNeverClearAStatusBit : Prop :=
  ∀ (s t : State) (e : Event) (rest : List Stimulus),
    s.schedule = .event e :: rest → e ≠ .reset → step s = .next t →
    (∀ c, cfsrHas s.cfsr c = true → cfsrHas t.cfsr c = true) ∧
    (s.hfsr.forced = true → t.hfsr.forced = true) ∧ (s.hfsr.vecttbl = true → t.hfsr.vecttbl = true) ∧
    s.afsr &&& t.afsr = s.afsr

/-- No event other than reset changes a configuration field of the block: ACTLR, VTOR, AIRCR.PRIGROUP, SCR, CCR, the PRI_N fields, the enables of SHCSR,
or the reset request: the latch of the request, which no event withdraws, is the spec's decision D11 (DESIGN CHOICE, log 39). The fields that the
processor acts on change only by the event that takes up a register, and then only that register's (R81, R324 e; DESIGN CHOICE, log 20). -/
def Obligations.EventsLeaveTheConfiguration : Prop :=
  (∀ (s t : State) (e : Event) (rest : List Stimulus),
    s.schedule = .event e :: rest → e ≠ .reset → step s = .next t →
    SameConfig s t ∧ ((∀ r, e ≠ .observe r) → t.seen = s.seen)) ∧
  ∀ s : State,
    performEvent (.observe .vtor) s = .next { s with seen := { s.seen with tbloff := s.tbloff } } ∧
    performEvent (.observe .aircr) s = .next { s with seen := { s.seen with prigroup := s.prigroup } } ∧
    performEvent (.observe .scr) s = .next { s with seen := { s.seen with scr := s.scr } } ∧
    performEvent (.observe .ccr) s = .next { s with seen := { s.seen with ccr := s.ccr } } ∧
    performEvent (.observe .shpr1) s =
      .next { s with seen := { s.seen with pri := { s.seen.pri with pri4 := s.pri.pri4, pri5 := s.pri.pri5, pri6 := s.pri.pri6 } } } ∧
    performEvent (.observe .shpr2) s = .next { s with seen := { s.seen with pri := { s.seen.pri with pri11 := s.pri.pri11 } } } ∧
    performEvent (.observe .shpr3) s =
      .next { s with seen := { s.seen with pri := { s.seen.pri with pri14 := s.pri.pri14, pri15 := s.pri.pri15 } } } ∧
    performEvent (.observe .shcsr) s = .next { s with seen := { s.seen with ena := s.ena } }

/-- Where the VALID bit is 1 after an event, the event changed the address register only if it is itself a fault of the register's class with a known
address, and then the register holds that address: for BFAR the address of a precise bus error, of a store that fails with the write buffer
disabled, or of a lazy state preservation store; for MMFAR an address of the violating access, or that of such a store. So reading the address
first and VALID second (R392) never returns a torn address. -/
def Obligations.ValidAddressChangesOnlyWithItsOwnFault : Prop :=
  ∀ (s t : State) (e : Event) (rest : List Stimulus),
    s.schedule = .event e :: rest → e ≠ .reset → step s = .next t →
    (t.cfsr.bfarvalid = true → t.bfar ≠ s.bfar →
      ((∃ load size, e = .busError load size t.bfar) ∨ (∃ size, e = .bufferableStore size t.bfar true) ∧ s.actlr.disdefwbuf = true) ∧
        t.cfsr.preciserr = true ∨
      e = .lazyBusError t.bfar ∧ t.cfsr.lsperr = true) ∧
    (t.cfsr.mmarvalid = true → t.mmfar ≠ s.mmfar →
      (∃ size a d, e = .dataViolation size a ∧ d < size.bytes ∧ t.mmfar = a + BitVec.ofNat 32 d ∧ (a.toNat % size.bytes = 0 → d = 0)) ∧
        t.cfsr.daccviol = true ∨
      e = .lazyViolation t.mmfar ∧ t.cfsr.mlsperr = true)

/-- While DISDEFWBUF = 1 no event sets IMPRECISERR, and a store that fails is the precise bus error of its address (R125), unless it is unaligned and traps
(R193; the UNALIGN_TRP that counts is the one the processor acts on, DESIGN CHOICE, log 20). A store to the block is never such a store, whatever
DISDEFWBUF says (R83, R80; log 47). -/
def Obligations.NoImpreciseErrorWithTheWriteBufferDisabled : Prop :=
  ∀ s : State,
    (s.actlr.disdefwbuf = true →
      (∀ (e : Event) (rest : List Stimulus) (t : State), s.schedule = .event e :: rest → step s = .next t →
        t.cfsr.impreciserr = true → s.cfsr.impreciserr = true) ∧
      (∀ (size : Size) (a : Word), OutsideBlock a size.bytes →
        a.toNat % size.bytes = 0 ∨ s.seen.ccr.unalignTrp = false →
        performEvent (.bufferableStore size a true) s = .next (preciseBusError false a s) ∧
        performEvent (.bufferableStore size a false) s = .next s)) ∧
    (∀ (size : Size) (a : Word) (fails : Bool) (k : Nat), k < size.bytes → isListed (a + BitVec.ofNat 32 k) = true →
      performEvent (.bufferableStore size a fails) s =
        .refused (if a.toNat % size.bytes = 0 ∧ (size = .word ∨ isByteAccessible a = true) then .accessIsAnOperation else .unsupportedAccess))

/-! ## Privilege -/

/-- An unprivileged access of any of the eighty operations reads and writes no register of the block: all it does is the precise data bus error of its
address, with no data returned. So it changes no configuration field, clears no flag and does not touch AFSR, and outside lock-up and outside handlers
of priority −1 and −2 it sets PRECISERR and records its address. That it is a bus fault is the model's choice (PRESUMED, log 5), after D1. -/
def Obligations.UnprivilegedAccessFaults : Prop :=
  ∀ (i : Instr) (s : State), i.priv = false →
    ∃ t, exec i s = .next t ∧
      t = preciseBusError (decide (i.access.dir = .read)) i.access.addr { s with readData := none } ∧
      t.readData = none ∧ SameConfig s t ∧ t.afsr = s.afsr ∧ t.seen = s.seen ∧
      (∀ c, cfsrHas s.cfsr c = true → cfsrHas t.cfsr c = true) ∧
      (s.hfsr.forced = true → t.hfsr.forced = true) ∧ (s.hfsr.vecttbl = true → t.hfsr.vecttbl = true) ∧ t.hfsr.debugVt = s.hfsr.debugVt ∧
      (∀ n, t.isPending n = true → s.isPending n = true ∨ isFaultExc n) ∧
      (∀ n, t.isActive n = true → s.isActive n = true ∨ s.isPending n = true ∨ isFaultExc n) ∧
      (s.lockedUp = false → -1 < currentPriority s →
        t.cfsr.preciserr = true ∧ t.cfsr.bfarvalid = true ∧ t.bfar = i.access.addr)

/-! ## Reads -/

/-- A privileged read of any register or lane is performed and changes no state (R77: the spec's decision D18); RD.ICSR draws three values (log 3). -/
def Obligations.ReadsChangeNothing : Prop :=
  ∀ (i : Instr) (s : State), i.priv = true → i.access.dir = .read →
    ∃ d, exec i s = .next { s with readData := some d, drawn := s.drawn + if i = .rdIcsr true then 3 else 0 }

/-- RD.ACTLR, RD.CPUID, RD.VTOR, RD.AIRCR, RD.SCR, RD.CCR: a word read at the register's address returns exactly the register's fields, 0 in every other
position. -/
def Obligations.ConfigurationReadsReturnTheFields : Prop :=
  ∀ s : State,
    (∃ w, Returns (exec (.rdActlr true) s) (.word w) ∧
      BitsAre w [(9, s.actlr.disoofp), (8, s.actlr.disfpca), (2, s.actlr.disfold), (1, s.actlr.disdefwbuf), (0, s.actlr.dismcycint)] ∧
      (Instr.rdActlr true).access = ⟨true, .read, .word, 0xE000E008#32, 0#32⟩) ∧
    (Returns (exec (.rdCpuid true) s) (.word 0x410FC241#32) ∧
      (Instr.rdCpuid true).access = ⟨true, .read, .word, 0xE000ED00#32, 0#32⟩) ∧
    (∃ w, Returns (exec (.rdVtor true) s) (.word w) ∧ BitsAre w (fieldBits 9 s.tbloff) ∧
      (Instr.rdVtor true).access = ⟨true, .read, .word, 0xE000ED08#32, 0#32⟩) ∧
    (∃ w, Returns (exec (.rdAircr true) s) (.word w) ∧ BitsAre w (fieldBits 16 0xFA05#16 ++ fieldBits 8 s.prigroup) ∧
      (Instr.rdAircr true).access = ⟨true, .read, .word, 0xE000ED0C#32, 0#32⟩) ∧
    (∃ w, Returns (exec (.rdScr true) s) (.word w) ∧
      BitsAre w [(4, s.scr.sevonpend), (2, s.scr.sleepdeep), (1, s.scr.sleeponexit)] ∧
      (Instr.rdScr true).access = ⟨true, .read, .word, 0xE000ED10#32, 0#32⟩) ∧
    (∃ w, Returns (exec (.rdCcr true) s) (.word w) ∧
      BitsAre w [(9, s.ccr.stkalign), (8, s.ccr.bfhfnmign), (4, s.ccr.div0Trp), (3, s.ccr.unalignTrp), (1, s.ccr.usersetmpend),
        (0, s.ccr.nonbasethrdena)] ∧
      (Instr.rdCcr true).access = ⟨true, .read, .word, 0xE000ED14#32, 0#32⟩)

/-- RD.ICSR, a word read at 0xE000ED04, returns the three pending bits, two bits with any value (27 and 25), ISRPENDING, VECTPENDING, RETTOBASE and IPSR, 0 elsewhere, and changes
nothing but the count of values drawn (log 3). Bit 23 is 0: the processor is never in Debug (D17). -/
def Obligations.IcsrReadReturnsTheViews : Prop :=
  ∀ s : State, ∃ (w : Word) (d27 d25 r : Bool),
    (Instr.rdIcsr true).access = ⟨true, .read, .word, 0xE000ED04#32, 0#32⟩ ∧
    exec (.rdIcsr true) s = .next { s with readData := some (.word w), drawn := s.drawn + 3 } ∧
    BitsAre w ([(31, s.isPending 2), (28, s.isPending 14), (27, d27), (26, s.isPending 15), (25, d25), (22, isrPending s), (11, r)]
      ++ fieldBits 12 (vectPending s) ++ fieldBits 0 s.ipsr) ∧
    (s.ipsr ≠ 0#9 → (r = true ↔
      s.isActive s.ipsr.toNat = true ∧ ∀ n, 1 ≤ n → s.isActive n = true → n = s.ipsr.toNat))

/-- VECTPENDING is 0 when no enabled exception that neither BASEPRI nor FAULTMASK holds back is pending, and else the number of one of them, of
numerically lowest priority, the lowest number among equals (that tie-break is the model's choice, log 13); PRIMASK plays no part. ISRPENDING is 1
exactly when an interrupt, a number from 16 on (log 15), is pending. -/
def Obligations.IcsrPendingViewsAreRight : Prop :=
  ∀ s : State, Inv s →
    ((∀ n, s.isPending n = true → enabled s n = true → s.maskedHolds.contains n = true) → vectPending s = 0#7) ∧
    (∀ n, s.isPending n = true → enabled s n = true → s.maskedHolds.contains n = false →
      ∃ m, vectPending s = BitVec.ofNat 7 m ∧ 1 ≤ m ∧ m < 128 ∧ s.isPending m = true ∧ enabled s m = true ∧
        s.maskedHolds.contains m = false ∧ (prio s m < prio s n ∨ prio s m = prio s n ∧ m ≤ n)) ∧
    (isrPending s = true ↔ ∃ n, 16 ≤ n ∧ n ≤ 15 + s.params.numIrq.val ∧ s.isPending n = true)

/-- RD.SHPR1, RD.SHPR2, RD.SHPR3 return the implemented bits of their priority fields, 0 in the low nibbles and the reserved positions. -/
def Obligations.PriorityReadsReturnTheFields : Prop :=
  ∀ s : State,
    (∃ w, Returns (exec (.rdShpr1 true) s) (.word w) ∧
      BitsAre w (fieldBits 20 s.pri.pri6 ++ fieldBits 12 s.pri.pri5 ++ fieldBits 4 s.pri.pri4) ∧
      (Instr.rdShpr1 true).access = ⟨true, .read, .word, 0xE000ED18#32, 0#32⟩) ∧
    (∃ w, Returns (exec (.rdShpr2 true) s) (.word w) ∧ BitsAre w (fieldBits 28 s.pri.pri11) ∧
      (Instr.rdShpr2 true).access = ⟨true, .read, .word, 0xE000ED1C#32, 0#32⟩) ∧
    (∃ w, Returns (exec (.rdShpr3 true) s) (.word w) ∧ BitsAre w (fieldBits 28 s.pri.pri15 ++ fieldBits 20 s.pri.pri14) ∧
      (Instr.rdShpr3 true).access = ⟨true, .read, .word, 0xE000ED20#32, 0#32⟩)

/-- RD.SHCSR returns the three enables and the views of the pending and active arrays, 0 elsewhere. -/
def Obligations.ShcsrReadReturnsTheViews : Prop :=
  ∀ s : State, ∃ w, Returns (exec (.rdShcsr true) s) (.word w) ∧
    BitsAre w [(18, s.ena.usgfault), (17, s.ena.busfault), (16, s.ena.memfault), (15, s.isPending 11), (14, s.isPending 5),
      (13, s.isPending 4), (12, s.isPending 6), (11, s.isActive 15), (10, s.isActive 14), (8, s.isActive 12), (7, s.isActive 11),
      (3, s.isActive 6), (1, s.isActive 5), (0, s.isActive 4)] ∧
    (Instr.rdShcsr true).access = ⟨true, .read, .word, 0xE000ED24#32, 0#32⟩

/-- RD.CFSR and RD.HFSR return their flags, 0 elsewhere (R230, R251); RD.MMFAR, RD.BFAR, RD.AFSR return the register (R256, R259, R262); none clears
anything: that no read has a side effect is the spec's decision D18 (R77). -/
def Obligations.FaultReadsReturnTheRegisters : Prop :=
  ∀ s : State,
    (∃ w, Returns (exec (.rdCfsr true) s) (.word w) ∧ w = cfsrWord s.cfsr ∧
      BitsAre w [(25, s.cfsr.divbyzero), (24, s.cfsr.unaligned), (19, s.cfsr.nocp), (18, s.cfsr.invpc), (17, s.cfsr.invstate),
        (16, s.cfsr.undefinstr), (15, s.cfsr.bfarvalid), (13, s.cfsr.lsperr), (12, s.cfsr.stkerr), (11, s.cfsr.unstkerr),
        (10, s.cfsr.impreciserr), (9, s.cfsr.preciserr), (8, s.cfsr.ibuserr), (7, s.cfsr.mmarvalid), (5, s.cfsr.mlsperr),
        (4, s.cfsr.mstkerr), (3, s.cfsr.munstkerr), (1, s.cfsr.daccviol), (0, s.cfsr.iaccviol)] ∧
      (Instr.rdCfsr true).access = ⟨true, .read, .word, 0xE000ED28#32, 0#32⟩) ∧
    (∃ w, Returns (exec (.rdHfsr true) s) (.word w) ∧
      BitsAre w [(31, s.hfsr.debugVt), (30, s.hfsr.forced), (1, s.hfsr.vecttbl)] ∧
      (Instr.rdHfsr true).access = ⟨true, .read, .word, 0xE000ED2C#32, 0#32⟩) ∧
    (Returns (exec (.rdMmfar true) s) (.word s.mmfar) ∧
      (Instr.rdMmfar true).access = ⟨true, .read, .word, 0xE000ED34#32, 0#32⟩) ∧
    (Returns (exec (.rdBfar true) s) (.word s.bfar) ∧
      (Instr.rdBfar true).access = ⟨true, .read, .word, 0xE000ED38#32, 0#32⟩) ∧
    (Returns (exec (.rdAfsr true) s) (.word s.afsr) ∧
      (Instr.rdAfsr true).access = ⟨true, .read, .word, 0xE000ED3C#32, 0#32⟩) ∧
    (∀ i ∈ [Instr.rdCfsr true, .rdHfsr true, .rdMmfar true, .rdBfar true, .rdAfsr true],
      ∃ t, exec i s = .next t ∧ t.cfsr = s.cfsr ∧ t.hfsr = s.hfsr ∧ t.afsr = s.afsr)

/-- The byte and halfword reads of SHPR1 to SHPR3, at the addresses of their lanes, return the lane of the register's read value that R208 names, and
change nothing (D18). -/
def Obligations.PriorityLaneReadsReturnTheLane : Prop :=
  ∀ s : State, ∃ w1 w2 w3,
    Answers (exec (.rdShpr1 true) s) s (.word w1) ∧ Answers (exec (.rdShpr2 true) s) s (.word w2) ∧
    Answers (exec (.rdShpr3 true) s) s (.word w3) ∧
    Answers (exec (.rdbPri4 true) s) s (.byte (w1.extractLsb' 0 8)) ∧
    Answers (exec (.rdbPri5 true) s) s (.byte (w1.extractLsb' 8 8)) ∧
    Answers (exec (.rdbPri6 true) s) s (.byte (w1.extractLsb' 16 8)) ∧
    Answers (exec (.rdbShpr1B3 true) s) s (.byte 0#8) ∧
    Answers (exec (.rdhShpr1Lo true) s) s (.half (w1.extractLsb' 0 16)) ∧
    Answers (exec (.rdhShpr1Hi true) s) s (.half (w1.extractLsb' 16 16)) ∧
    Answers (exec (.rdbShpr2B0 true) s) s (.byte 0#8) ∧
    Answers (exec (.rdbShpr2B1 true) s) s (.byte 0#8) ∧
    Answers (exec (.rdbShpr2B2 true) s) s (.byte 0#8) ∧
    Answers (exec (.rdbPri11 true) s) s (.byte (w2.extractLsb' 24 8)) ∧
    Answers (exec (.rdhShpr2Lo true) s) s (.half 0#16) ∧
    Answers (exec (.rdhShpr2Hi true) s) s (.half (w2.extractLsb' 16 16)) ∧
    Answers (exec (.rdbShpr3B0 true) s) s (.byte 0#8) ∧
    Answers (exec (.rdbShpr3B1 true) s) s (.byte 0#8) ∧
    Answers (exec (.rdbPri14 true) s) s (.byte (w3.extractLsb' 16 8)) ∧
    Answers (exec (.rdbPri15 true) s) s (.byte (w3.extractLsb' 24 8)) ∧
    Answers (exec (.rdhShpr3Lo true) s) s (.half 0#16) ∧
    Answers (exec (.rdhShpr3Hi true) s) s (.half (w3.extractLsb' 16 16)) ∧
    [Instr.rdbPri4 true, .rdbPri5 true, .rdbPri6 true, .rdbShpr1B3 true, .rdbShpr2B0 true, .rdbShpr2B1 true, .rdbShpr2B2 true, .rdbPri11 true,
        .rdbShpr3B0 true, .rdbShpr3B1 true, .rdbPri14 true, .rdbPri15 true].map Instr.access =
      [0xE000ED18#32, 0xE000ED19#32, 0xE000ED1A#32, 0xE000ED1B#32, 0xE000ED1C#32, 0xE000ED1D#32, 0xE000ED1E#32, 0xE000ED1F#32,
        0xE000ED20#32, 0xE000ED21#32, 0xE000ED22#32, 0xE000ED23#32].map (⟨true, .read, .byte, ·, 0#32⟩) ∧
    [Instr.rdhShpr1Lo true, .rdhShpr1Hi true, .rdhShpr2Lo true, .rdhShpr2Hi true, .rdhShpr3Lo true, .rdhShpr3Hi true].map Instr.access =
      [0xE000ED18#32, 0xE000ED1A#32, 0xE000ED1C#32, 0xE000ED1E#32, 0xE000ED20#32, 0xE000ED22#32].map (⟨true, .read, .half, ·, 0#32⟩)

/-- The byte and halfword reads of CFSR, at the addresses of their lanes, return the lane of the register's read value that R266 names, and change
nothing (D18). -/
def Obligations.CfsrLaneReadsReturnTheLane : Prop :=
  ∀ s : State, ∃ w, Answers (exec (.rdCfsr true) s) s (.word w) ∧
    Answers (exec (.rdbMmfsr true) s) s (.byte (w.extractLsb' 0 8)) ∧
    Answers (exec (.rdbBfsr true) s) s (.byte (w.extractLsb' 8 8)) ∧
    Answers (exec (.rdbUfsrLo true) s) s (.byte (w.extractLsb' 16 8)) ∧
    Answers (exec (.rdbUfsrHi true) s) s (.byte (w.extractLsb' 24 8)) ∧
    Answers (exec (.rdhCfsrLo true) s) s (.half (w.extractLsb' 0 16)) ∧
    Answers (exec (.rdhUfsr true) s) s (.half (w.extractLsb' 16 16)) ∧
    [Instr.rdbMmfsr true, .rdbBfsr true, .rdbUfsrLo true, .rdbUfsrHi true].map Instr.access =
      [0xE000ED28#32, 0xE000ED29#32, 0xE000ED2A#32, 0xE000ED2B#32].map (⟨true, .read, .byte, ·, 0#32⟩) ∧
    [Instr.rdhCfsrLo true, .rdhUfsr true].map Instr.access = [0xE000ED28#32, 0xE000ED2A#32].map (⟨true, .read, .half, ·, 0#32⟩)

/-! ## Writes -/

/-- WR.ACTLR, WR.VTOR, WR.SCR, WR.CCR: a word write at the register's address stores every field and changes nothing else, if it carries no 1 in a reserved
position; with one it is refused or performed as RESERVED_WRITE says (R40, R13: the spec's decision D4, log 6). A write of the read-only CPUID is
performed and has no effect, whatever the word (R128: the spec's decision D5, log 8). -/
def Obligations.ConfigurationWritesStoreTheFields : Prop :=
  ∀ (s : State) (v : Word),
    PerformsUnlessReserved (exec (.wrActlr true v) s) s v 0xFFFFFCF8#32
      { s with actlr := ⟨v.getLsbD 9, v.getLsbD 8, v.getLsbD 2, v.getLsbD 1, v.getLsbD 0⟩ } ∧
    PerformsUnlessReserved (exec (.wrVtor true v) s) s v 0xC00001FF#32 { s with tbloff := v.extractLsb' 9 21 } ∧
    PerformsUnlessReserved (exec (.wrScr true v) s) s v 0xFFFFFFE9#32
      { s with scr := ⟨v.getLsbD 4, v.getLsbD 2, v.getLsbD 1⟩ } ∧
    PerformsUnlessReserved (exec (.wrCcr true v) s) s v 0xFFFFFCE4#32
      { s with ccr := ⟨v.getLsbD 9, v.getLsbD 8, v.getLsbD 4, v.getLsbD 3, v.getLsbD 1, v.getLsbD 0⟩ } ∧
    Performs (exec (.wrCpuid true v) s) s ∧
    [Instr.wrActlr true v, .wrCpuid true v, .wrVtor true v, .wrScr true v, .wrCcr true v].map Instr.access =
      [0xE000E008#32, 0xE000ED00#32, 0xE000ED08#32, 0xE000ED10#32, 0xE000ED14#32].map (⟨true, .write, .word, ·, v⟩)

/-- WR.ICSR, a word write at 0xE000ED04: set-pending and clear-pending bits written as 1 act on the pending state of NMI, PendSV and SysTick, every 0 has
no effect, and nothing else changes; that a read-only position has none either is the spec's decisions D5 and D8 (DESIGN CHOICE, log 8); a
contradictory pair is refused (R145, D21), a 1 in bit 23 too, whatever RESERVED_WRITE says (R146, D17), and a 1 in another reserved position as
RESERVED_WRITE says (D4; DESIGN CHOICE, log 6). -/
def Obligations.IcsrWriteActsOnThePendingStates : Prop :=
  ∀ (s : State) (v : Word),
    (v &&& 0x61B80600#32 = 0#32 ∨ s.params.reservedWrite = .ignore ∧ v.getLsbD 23 = false →
      (¬ (v.getLsbD 28 = true ∧ v.getLsbD 27 = true) ∧ ¬ (v.getLsbD 26 = true ∧ v.getLsbD 25 = true) →
        ∃ p, Performs (exec (.wrIcsr true v) s) { s with pending := p } ∧
          ∀ n, ({ s with pending := p } : State).isPending n =
            if n = 2 then v.getLsbD 31 || s.isPending 2
            else if n = 14 then v.getLsbD 28 || (s.isPending 14 && !v.getLsbD 27)
            else if n = 15 then v.getLsbD 26 || (s.isPending 15 && !v.getLsbD 25)
            else s.isPending n) ∧
      (v.getLsbD 28 = true ∧ v.getLsbD 27 = true → exec (.wrIcsr true v) s = .refused .unpredictableIcsr) ∧
      (v.getLsbD 26 = true ∧ v.getLsbD 25 = true → exec (.wrIcsr true v) s = .refused .unpredictableIcsr)) ∧
    (v.getLsbD 23 = true → exec (.wrIcsr true v) s = .refused .reservedBitWritten) ∧
    (v &&& 0x61B80600#32 ≠ 0#32 → s.params.reservedWrite = .refuse → exec (.wrIcsr true v) s = .refused .reservedBitWritten) ∧
    (Instr.wrIcsr true v).access = ⟨true, .write, .word, 0xE000ED04#32, v⟩

/-- WR.AIRCR, a word write at 0xE000ED0C: without the key 0x05FA the write is ignored and nothing else of it is examined; with it PRIGROUP is stored and
bit 2 sets the reset request, bits 1 and 0 are refused (R173, D21), a reserved 1 as RESERVED_WRITE says (D4, log 6). That the request is a latch, which a
later write with bit 2 = 0 leaves set, is the spec's decision D11 (DESIGN CHOICE, log 39), that the read-only ENDIANESS is ignored its decision D5
(DESIGN CHOICE, log 8). -/
def Obligations.AircrWriteNeedsTheKey : Prop :=
  ∀ (s : State) (v : Word),
    (v.extractLsb' 16 16 ≠ 0x05FA#16 → Performs (exec (.wrAircr true v) s) s) ∧
    (v.extractLsb' 16 16 = 0x05FA#16 →
      (v &&& 0x000078F8#32 = 0#32 ∨ s.params.reservedWrite = .ignore →
        (v.getLsbD 1 = false ∧ v.getLsbD 0 = false →
          Performs (exec (.wrAircr true v) s)
            { s with prigroup := v.extractLsb' 8 3, sysresetreq := s.sysresetreq || v.getLsbD 2 }) ∧
        (v.getLsbD 1 = true ∨ v.getLsbD 0 = true → exec (.wrAircr true v) s = .refused .unpredictableAircr)) ∧
      (v &&& 0x000078F8#32 ≠ 0#32 → s.params.reservedWrite = .refuse → exec (.wrAircr true v) s = .refused .reservedBitWritten)) ∧
    (Instr.wrAircr true v).access = ⟨true, .write, .word, 0xE000ED0C#32, v⟩

/-- WR.SHPR1, WR.SHPR2, WR.SHPR3 store the upper nibble of each field's byte, ignore the lower, and change nothing else; a reserved 1 as RESERVED_WRITE
says (D4, log 6). -/
def Obligations.PriorityWritesStoreTheUpperNibbles : Prop :=
  ∀ (s : State) (v : Word),
    PerformsUnlessReserved (exec (.wrShpr1 true v) s) s v 0xFF000000#32
      { s with pri := { s.pri with pri4 := v.extractLsb' 4 4, pri5 := v.extractLsb' 12 4, pri6 := v.extractLsb' 20 4 } } ∧
    PerformsUnlessReserved (exec (.wrShpr2 true v) s) s v 0x00FFFFFF#32
      { s with pri := { s.pri with pri11 := v.extractLsb' 28 4 } } ∧
    PerformsUnlessReserved (exec (.wrShpr3 true v) s) s v 0x0000FFFF#32
      { s with pri := { s.pri with pri14 := v.extractLsb' 20 4, pri15 := v.extractLsb' 28 4 } } ∧
    [Instr.wrShpr1 true v, .wrShpr2 true v, .wrShpr3 true v].map Instr.access =
      [0xE000ED18#32, 0xE000ED1C#32, 0xE000ED20#32].map (⟨true, .write, .word, ·, v⟩)

/-- The byte and halfword writes of SHPR1 to SHPR3 store the upper nibbles of the fields in their lane and leave the other fields; in the lane's reserved
positions the data must be 0, and a lane that is reserved as a whole changes nothing (D26; D4, log 6). -/
def Obligations.PriorityLaneWritesStoreTheirFields : Prop :=
  ∀ s : State,
   (∀ v : Byte,
    Performs (exec (.wrbPri4 true v) s) { s with pri := { s.pri with pri4 := v.extractLsb' 4 4 } } ∧
    Performs (exec (.wrbPri5 true v) s) { s with pri := { s.pri with pri5 := v.extractLsb' 4 4 } } ∧
    Performs (exec (.wrbPri6 true v) s) { s with pri := { s.pri with pri6 := v.extractLsb' 4 4 } } ∧
    Performs (exec (.wrbPri11 true v) s) { s with pri := { s.pri with pri11 := v.extractLsb' 4 4 } } ∧
    Performs (exec (.wrbPri14 true v) s) { s with pri := { s.pri with pri14 := v.extractLsb' 4 4 } } ∧
    Performs (exec (.wrbPri15 true v) s) { s with pri := { s.pri with pri15 := v.extractLsb' 4 4 } } ∧
    PerformsUnlessReserved (exec (.wrbShpr1B3 true v) s) s (v.setWidth 32) 0xFF#32 s ∧
    PerformsUnlessReserved (exec (.wrbShpr2B0 true v) s) s (v.setWidth 32) 0xFF#32 s ∧
    PerformsUnlessReserved (exec (.wrbShpr2B1 true v) s) s (v.setWidth 32) 0xFF#32 s ∧
    PerformsUnlessReserved (exec (.wrbShpr2B2 true v) s) s (v.setWidth 32) 0xFF#32 s ∧
    PerformsUnlessReserved (exec (.wrbShpr3B0 true v) s) s (v.setWidth 32) 0xFF#32 s ∧
    PerformsUnlessReserved (exec (.wrbShpr3B1 true v) s) s (v.setWidth 32) 0xFF#32 s ∧
    [Instr.wrbPri4 true v, .wrbPri5 true v, .wrbPri6 true v, .wrbShpr1B3 true v, .wrbShpr2B0 true v, .wrbShpr2B1 true v, .wrbShpr2B2 true v,
        .wrbPri11 true v, .wrbShpr3B0 true v, .wrbShpr3B1 true v, .wrbPri14 true v, .wrbPri15 true v].map Instr.access =
      [0xE000ED18#32, 0xE000ED19#32, 0xE000ED1A#32, 0xE000ED1B#32, 0xE000ED1C#32, 0xE000ED1D#32, 0xE000ED1E#32, 0xE000ED1F#32,
        0xE000ED20#32, 0xE000ED21#32, 0xE000ED22#32, 0xE000ED23#32].map (⟨true, .write, .byte, ·, v.setWidth 32⟩)) ∧
   (∀ v : Half,
    Performs (exec (.wrhShpr1Lo true v) s)
      { s with pri := { s.pri with pri4 := v.extractLsb' 4 4, pri5 := v.extractLsb' 12 4 } } ∧
    PerformsUnlessReserved (exec (.wrhShpr1Hi true v) s) s (v.setWidth 32) 0xFF00#32
      { s with pri := { s.pri with pri6 := v.extractLsb' 4 4 } } ∧
    PerformsUnlessReserved (exec (.wrhShpr2Lo true v) s) s (v.setWidth 32) 0xFFFF#32 s ∧
    PerformsUnlessReserved (exec (.wrhShpr2Hi true v) s) s (v.setWidth 32) 0x00FF#32
      { s with pri := { s.pri with pri11 := v.extractLsb' 12 4 } } ∧
    PerformsUnlessReserved (exec (.wrhShpr3Lo true v) s) s (v.setWidth 32) 0xFFFF#32 s ∧
    Performs (exec (.wrhShpr3Hi true v) s)
      { s with pri := { s.pri with pri14 := v.extractLsb' 4 4, pri15 := v.extractLsb' 12 4 } } ∧
    [Instr.wrhShpr1Lo true v, .wrhShpr1Hi true v, .wrhShpr2Lo true v, .wrhShpr2Hi true v, .wrhShpr3Lo true v, .wrhShpr3Hi true v].map
        Instr.access =
      [0xE000ED18#32, 0xE000ED1A#32, 0xE000ED1C#32, 0xE000ED1E#32, 0xE000ED20#32, 0xE000ED22#32].map
        (⟨true, .write, .half, ·, v.setWidth 32⟩))

/-- WR.SHCSR stores the three enables, makes the written pended and active bits the states of their exceptions, and changes nothing else: no other
exception, not IPSR, not the stacked frames (R214). That it is plain assignment is the spec's decision D29 (log 46); a reserved 1 as RESERVED_WRITE says
(D4, log 6). -/
def Obligations.ShcsrWriteAssignsEveryBit : Prop :=
  ∀ (s : State) (v : Word), ∃ p a,
    PerformsUnlessReserved (exec (.wrShcsr true v) s) s v 0xFFF80274#32
      { s with ena := ⟨v.getLsbD 18, v.getLsbD 17, v.getLsbD 16⟩, pending := p, active := a } ∧
    (∀ n, ({ s with pending := p } : State).isPending n =
      if n = 11 then v.getLsbD 15 else if n = 5 then v.getLsbD 14 else if n = 4 then v.getLsbD 13
      else if n = 6 then v.getLsbD 12 else s.isPending n) ∧
    (∀ n, ({ s with active := a } : State).isActive n =
      if n = 15 then v.getLsbD 11 else if n = 14 then v.getLsbD 10 else if n = 12 then v.getLsbD 8
      else if n = 11 then v.getLsbD 7 else if n = 6 then v.getLsbD 3 else if n = 5 then v.getLsbD 1
      else if n = 4 then v.getLsbD 0 else s.isActive n) ∧
    (Instr.wrShcsr true v).access = ⟨true, .write, .word, 0xE000ED24#32, v⟩

/-- WR.CFSR and its byte and halfword forms write the bits of their lane and no other, in either mode of CFSR_WRITE (OPEN, default rc_w1 PRESUMED, log 7),
and change nothing else: clearing a VALID bit leaves the address register; a reserved 1 as RESERVED_WRITE says (D4, log 6). -/
def Obligations.CfsrWritesActOnTheirLane : Prop :=
  ∀ s : State,
    (∀ v : Word, ∃ c, CfsrLaneWritten s 0 32 v c ∧
      PerformsUnlessReserved (exec (.wrCfsr true v) s) s v 0xFCF04044#32 { s with cfsr := c } ∧
      (Instr.wrCfsr true v).access = ⟨true, .write, .word, 0xE000ED28#32, v⟩) ∧
    (∀ v : Byte,
      (∃ c, CfsrLaneWritten s 0 8 (v.setWidth 32) c ∧
        PerformsUnlessReserved (exec (.wrbMmfsr true v) s) s (v.setWidth 32) 0x44#32 { s with cfsr := c }) ∧
      (∃ c, CfsrLaneWritten s 8 8 (v.setWidth 32) c ∧
        PerformsUnlessReserved (exec (.wrbBfsr true v) s) s (v.setWidth 32) 0x40#32 { s with cfsr := c }) ∧
      (∃ c, CfsrLaneWritten s 16 8 (v.setWidth 32) c ∧
        PerformsUnlessReserved (exec (.wrbUfsrLo true v) s) s (v.setWidth 32) 0xF0#32 { s with cfsr := c }) ∧
      (∃ c, CfsrLaneWritten s 24 8 (v.setWidth 32) c ∧
        PerformsUnlessReserved (exec (.wrbUfsrHi true v) s) s (v.setWidth 32) 0xFC#32 { s with cfsr := c }) ∧
      [Instr.wrbMmfsr true v, .wrbBfsr true v, .wrbUfsrLo true v, .wrbUfsrHi true v].map Instr.access =
        [0xE000ED28#32, 0xE000ED29#32, 0xE000ED2A#32, 0xE000ED2B#32].map (⟨true, .write, .byte, ·, v.setWidth 32⟩)) ∧
    (∀ v : Half,
      (∃ c, CfsrLaneWritten s 0 16 (v.setWidth 32) c ∧
        PerformsUnlessReserved (exec (.wrhCfsrLo true v) s) s (v.setWidth 32) 0x4044#32 { s with cfsr := c }) ∧
      (∃ c, CfsrLaneWritten s 16 16 (v.setWidth 32) c ∧
        PerformsUnlessReserved (exec (.wrhUfsr true v) s) s (v.setWidth 32) 0xFCF0#32 { s with cfsr := c }) ∧
      [Instr.wrhCfsrLo true v, .wrhUfsr true v].map Instr.access =
        [0xE000ED28#32, 0xE000ED2A#32].map (⟨true, .write, .half, ·, v.setWidth 32⟩))

/-- WR.HFSR clears FORCED and VECTTBL where written as 1, sets nothing, and changes nothing else; a 1 to DEBUG_VT is refused (R253, D21), a reserved 1 as
RESERVED_WRITE says (D4, log 6). -/
def Obligations.HfsrWriteClearsFlags : Prop :=
  ∀ (s : State) (v : Word),
    (v &&& 0x3FFFFFFD#32 = 0#32 ∨ s.params.reservedWrite = .ignore →
      (v.getLsbD 31 = false →
        Performs (exec (.wrHfsr true v) s)
          { s with hfsr := ⟨s.hfsr.debugVt, s.hfsr.forced && !v.getLsbD 30, s.hfsr.vecttbl && !v.getLsbD 1⟩ }) ∧
      (v.getLsbD 31 = true → exec (.wrHfsr true v) s = .refused .unpredictableHfsr)) ∧
    (v &&& 0x3FFFFFFD#32 ≠ 0#32 → s.params.reservedWrite = .refuse → exec (.wrHfsr true v) s = .refused .reservedBitWritten) ∧
    (Instr.wrHfsr true v).access = ⟨true, .write, .word, 0xE000ED2C#32, v⟩

/-- WR.MMFAR and WR.BFAR store the word, change no VALID bit and nothing else. -/
def Obligations.AddressRegisterWritesStoreTheWord : Prop :=
  ∀ (s : State) (v : Word),
    (Performs (exec (.wrMmfar true v) s) { s with mmfar := v } ∧
      (Instr.wrMmfar true v).access = ⟨true, .write, .word, 0xE000ED34#32, v⟩) ∧
    (Performs (exec (.wrBfar true v) s) { s with bfar := v } ∧
      (Instr.wrBfar true v).access = ⟨true, .write, .word, 0xE000ED38#32, v⟩)

/-- WR.AFSR clears the bits written as 1 (R263) and changes nothing else but the count of values drawn (DESIGN CHOICE, log 3). A bit whose AUXFAULT input
is HIGH is latched if it is not written as 1 (R264), and has any value if it is: how the input and the write coincide is the model's choice (DESIGN CHOICE,
log 31). -/
def Obligations.AfsrWriteClearsBits : Prop :=
  ∀ (s : State) (v : Word), ∃ w,
    Performs (exec (.wrAfsr true v) s) { s with afsr := w, drawn := s.drawn + 1 } ∧
    (∀ i, i < 32 → s.auxfault.getLsbD i = false → w.getLsbD i = (s.afsr.getLsbD i && !v.getLsbD i)) ∧
    (∀ i, i < 32 → s.auxfault.getLsbD i = true → v.getLsbD i = false → w.getLsbD i = true) ∧
    (Instr.wrAfsr true v).access = ⟨true, .write, .word, 0xE000ED3C#32, v⟩

/-! ## Write then read -/

/-- For ACTLR, VTOR, SCR, CCR, SHPR1, SHPR2, SHPR3 and SHCSR a read right after a write returns the word written, in the register's stored positions, 0 in
all others. For SHCSR it rests on the plain assignment of its pended and active bits, the spec's decision D29 (DESIGN CHOICE, log 46). -/
def Obligations.ReadAfterWriteReturnsTheWrittenBits : Prop :=
  ∀ (s t : State) (v : Word),
    (exec (.wrActlr true v) s = .next t → Answers (exec (.rdActlr true) t) t (.word (v &&& 0x00000307#32))) ∧
    (exec (.wrVtor true v) s = .next t → Answers (exec (.rdVtor true) t) t (.word (v &&& 0x3FFFFE00#32))) ∧
    (exec (.wrScr true v) s = .next t → Answers (exec (.rdScr true) t) t (.word (v &&& 0x00000016#32))) ∧
    (exec (.wrCcr true v) s = .next t → Answers (exec (.rdCcr true) t) t (.word (v &&& 0x0000031B#32))) ∧
    (exec (.wrShpr1 true v) s = .next t → Answers (exec (.rdShpr1 true) t) t (.word (v &&& 0x00F0F0F0#32))) ∧
    (exec (.wrShpr2 true v) s = .next t → Answers (exec (.rdShpr2 true) t) t (.word (v &&& 0xF0000000#32))) ∧
    (exec (.wrShpr3 true v) s = .next t → Answers (exec (.rdShpr3 true) t) t (.word (v &&& 0xF0F00000#32))) ∧
    (exec (.wrShcsr true v) s = .next t → Answers (exec (.rdShcsr true) t) t (.word (v &&& 0x0007FD8B#32)))

/-- Writing back to SHCSR the word just read from it changes nothing, in any state. It rests on the plain assignment of the pended and active bits, the
spec's decision D29 (DESIGN CHOICE, log 46). -/
def Obligations.ShcsrWriteBackChangesNothing : Prop :=
  ∀ (s : State) (w : Word), Answers (exec (.rdShcsr true) s) s (.word w) → Performs (exec (.wrShcsr true w) s) s

/-- The two-write sequence of R231, the bits to clear as 1 and then 0, clears them in both modes of CFSR_WRITE. -/
def Obligations.TwoWritesClearCfsrInBothModes : Prop :=
  ∀ (s : State) (v : Word), v &&& 0xFCF04044#32 = 0#32 →
    ∃ t u, exec (.wrCfsr true v) s = .next t ∧ exec (.wrCfsr true 0#32) t = .next u ∧ cfsrWord u.cfsr &&& v = 0#32

/-! ## Faults -/

/-- A fault whose exception can be taken: its flag is set and no other flag, its address is recorded, or none, VALID bits and all, and its handler is
entered at once, with the PC of the state in the frame (entry without further errors; log 22). For UNALIGNED, NOCP and IBUSERR that PC is from
general knowledge (R313; PRESUMED, log 42). The events of the causes are these reports: a coprocessor instruction is NOCP, illegal use of the EPSR
INVSTATE, or UNDEFINSTR if the instruction is also undefined, an undefined instruction UNDEFINSTR, the issue of an instruction whose fetch failed IBUSERR,
a prefetch that is never issued nothing, a fetch from an XN region IACCVIOL (from the block both fetches are refused, R85); a data bus error that no
handler ignores is PRECISERR with its address, a data access violation DACCVIOL with an address of the access, the first if it is aligned (R258), and
LSPERR and MLSPERR are reported with an address that may or may not be recorded and a PC that is not stated (DESIGN CHOICE, log 30). The data access of
these four lies outside the block (log 47). -/
def Obligations.FaultThatCanBeTakenEntersItsHandler : Prop :=
  (∀ (c : Cause) (a : FaultAddr) (s : State), s.lockedUp = false → s.entryErrors = [] → canTake s (causeClass c) = true →
    Recorded c a s (reportFault c a s) ∧ (reportFault c a s).hfsr = s.hfsr ∧
    (∀ n, n ≠ causeClass c → (reportFault c a s).isPending n = s.isPending n) ∧
    Entered (causeClass c) s (reportFault c a s) ∧ SameConfig s (reportFault c a s) ∧ SameRest s (reportFault c a s)) ∧
  ∀ s : State,
    performEvent .coprocessor s = .next (reportFault .nocp .none s) ∧
    performEvent (.illegalEpsr false) s = .next (reportFault .invstate .none s) ∧
    performEvent (.illegalEpsr true) s = .next (reportFault .undefinstr .none s) ∧
    performEvent .undefinedInstr s = .next (reportFault .undefinstr .none s) ∧
    performEvent .prefetchError s = .next s ∧
    (∀ size : Size, OutsideBlock s.pc size.bytes →
      performEvent (.issueError size) s = .next (reportFault .ibuserr .none s) ∧
      performEvent (.fetchViolation size) s = .next (reportFault .iaccviol .none s)) ∧
    (∀ (size : Size) (k : Nat), k < size.bytes → isListed (s.pc + BitVec.ofNat 32 k) = true →
      performEvent (.issueError size) s = .refused .fetchFromScb ∧ performEvent (.fetchViolation size) s = .refused .fetchFromScb) ∧
    (∀ (load : Bool) (size : Size) (a : Word), OutsideBlock a size.bytes → -1 < currentPriority s ∨ s.seen.ccr.bfhfnmign = false →
      performEvent (.busError load size a) s = .next (reportFault .preciserr (.known a) s)) ∧
    (∀ (size : Size) (a : Word), OutsideBlock a size.bytes → ∃ d, d < size.bytes ∧ (a.toNat % size.bytes = 0 → d = 0) ∧
      performEvent (.dataViolation size a) s = .next (reportFault .daccviol (.known (a + BitVec.ofNat 32 d)) { s with drawn := s.drawn + 1 })) ∧
    (∀ a : Word, OutsideBlock a 4 → ∃ pc, performEvent (.lazyBusError a) s =
      .next (reportFault .lsperr (.unspecified a) { s with pc := pc, drawn := s.drawn + 1 })) ∧
    (∀ a : Word, OutsideBlock a 4 → ∃ pc, performEvent (.lazyViolation a) s =
      .next (reportFault .mlsperr (.unspecified a) { s with pc := pc, drawn := s.drawn + 1 }))

/-- A fault whose exception cannot be taken, at a priority above −1, whatever its address: its flag, no other flag, and its address are recorded, FORCED is
set, the hard fault handler is entered at once, and its own exception is not made pending (the last from general knowledge: PRESUMED, log 48). The stacked
PC is that of the state, for UNALIGNED, NOCP and IBUSERR from general knowledge too (R313; PRESUMED, log 42). The events that report these faults are in
the statement on faults that can be taken. -/
def Obligations.FaultThatCannotBeTakenIsEscalated : Prop :=
  ∀ (c : Cause) (a : FaultAddr) (s : State),
    s.lockedUp = false → s.entryErrors = [] → canTake s (causeClass c) = false → -1 < currentPriority s →
    Recorded c a s (reportFault c a s) ∧ (reportFault c a s).hfsr = { s.hfsr with forced := true } ∧
    (∀ n, n ≠ excHardFault → (reportFault c a s).isPending n = s.isPending n) ∧
    Entered excHardFault s (reportFault c a s) ∧ SameConfig s (reportFault c a s) ∧ SameRest s (reportFault c a s)

/-- A fault inside a handler of priority −1 or −2, whatever its address, records its flag and its address and locks the processor up, and nothing else changes;
a data bus error is ignored instead under BFHFNMIGN, as the processor acts on it (R191; log 20). That every fault, not only a data bus error,
locks up is the spec's decision D22 (log 26), that a lazy state preservation error is no such data bus error DEDUCED (log 28). The events: a bus error with
BFHFNMIGN = 0, a data access violation and a lazy state preservation error each set their flag and lock up, whatever BFHFNMIGN says of the last
three; the access lies outside the block (log 47). What is recorded of an ignored error is the model's reading: BFHFNMIGN_RECORDS for the event of a PRECISERR (D36, log 27), the flag for
IMPRECISERR (DEDUCED, log 28). -/
def Obligations.FaultAtMinusOneOrMinusTwoLocksUp : Prop :=
  ∀ s : State, s.lockedUp = false → currentPriority s ≤ -1 →
    (∀ (c : Cause) (a : FaultAddr), Recorded c a s (reportFault c a s) ∧ ∃ k,
      reportFault c a s =
        { s with
          cfsr := (reportFault c a s).cfsr
          bfar := (reportFault c a s).bfar
          mmfar := (reportFault c a s).mmfar
          drawn := s.drawn + k
          lockedUp := decide (causeIsDataBusError c = false ∨ s.seen.ccr.bfhfnmign = false) }) ∧
    (∀ c : Cause, (reportFault c .none s).cfsr = cfsrSet c s.cfsr ∧ (reportFault c .none s).drawn = s.drawn) ∧
    (∀ (load : Bool) (size : Size) (a : Word), OutsideBlock a size.bytes → s.seen.ccr.bfhfnmign = false →
      ∃ t, performEvent (.busError load size a) s = .next t ∧ t.lockedUp = true ∧ t.cfsr.preciserr = true ∧ t.frames = s.frames ∧ t.ipsr = s.ipsr) ∧
    (∀ (size : Size) (a : Word), OutsideBlock a size.bytes → ∃ t, performEvent (.dataViolation size a) s = .next t ∧
      t.lockedUp = true ∧ t.cfsr.daccviol = true ∧ t.frames = s.frames ∧ t.ipsr = s.ipsr) ∧
    (∀ a : Word, OutsideBlock a 4 → ∃ t, performEvent (.lazyBusError a) s = .next t ∧
      t.lockedUp = true ∧ t.cfsr.lsperr = true ∧ t.frames = s.frames ∧ t.ipsr = s.ipsr) ∧
    (∀ a : Word, OutsideBlock a 4 → ∃ t, performEvent (.lazyViolation a) s = .next t ∧
      t.lockedUp = true ∧ t.cfsr.mlsperr = true ∧ t.frames = s.frames ∧ t.ipsr = s.ipsr)

/-- A precise data bus error that no handler ignores (R191) records exactly the address the instruction requested, aligned or not, under
BFARVALID, whatever else goes wrong on the way into the handler (R243, R261). The BFHFNMIGN that counts is the one the processor acts on
(R81; DESIGN CHOICE, log 20); the access lies outside the block (log 47). -/
def Obligations.PreciseBusErrorRecordsTheRequestedAddress : Prop :=
  ∀ (s : State) (load : Bool) (size : Size) (a : Word), OutsideBlock a size.bytes → s.lockedUp = false →
    -1 < currentPriority s ∨ s.seen.ccr.bfhfnmign = false →
    ∃ t, performEvent (.busError load size a) s = .next t ∧
      t.cfsr.preciserr = true ∧ t.cfsr.bfarvalid = true ∧ t.bfar = a ∧ t.destWrite = s.destWrite

/-- Under BFHFNMIGN a handler of priority −1 or −2 ignores a data bus error of a load or store: no exception is raised, nothing is stacked, no lock-up. A
load's destination takes a value drawn in this step, a store's step writes none. The error is recorded or not, as BFHFNMIGN_RECORDS says (D36; DESIGN CHOICE,
log 27): not at all, or as PRECISERR with its address, where MMARVALID may fall (R267); no other flag changes. With BFHFNMIGN = 0 the processor locks up.
The BFHFNMIGN that counts is the one the processor acts on (log 20); the access lies outside the block (log 47). -/
def Obligations.IgnoredBusErrorRaisesNothing : Prop :=
  ∀ (s : State) (load : Bool) (size : Size) (a : Word), OutsideBlock a size.bytes → s.lockedUp = false → currentPriority s ≤ -1 →
    (s.seen.ccr.bfhfnmign = true → ∃ t, performEvent (.busError load size a) s = .next t ∧
      t.pending = s.pending ∧ t.active = s.active ∧ t.ipsr = s.ipsr ∧ t.frames = s.frames ∧ t.pc = s.pc ∧ t.sp = s.sp ∧
      t.hfsr = s.hfsr ∧ t.power = s.power ∧ t.lockedUp = false ∧ t.entryErrors = s.entryErrors ∧ t.vectorFetch = s.vectorFetch ∧
      SameConfig s t ∧ SameRest s t ∧
      (load = false → t.destWrite = s.destWrite) ∧
      (load = true → ∃ k, s.drawn ≤ k ∧ k < t.drawn ∧ t.destWrite = some (Config.drawWord k)) ∧
      (∀ c, c ≠ .preciserr → cfsrHas t.cfsr c = cfsrHas s.cfsr c) ∧
      (s.params.ignoredRecords = .none → t.cfsr = s.cfsr ∧ t.bfar = s.bfar ∧ t.mmfar = s.mmfar) ∧
      (s.params.ignoredRecords = .status → t.cfsr.preciserr = true ∧ t.cfsr.bfarvalid = true ∧ t.bfar = a) ∧
      (t.cfsr = s.cfsr ∧ t.bfar = s.bfar ∧ t.mmfar = s.mmfar ∨
        t.cfsr.preciserr = true ∧ t.cfsr.bfarvalid = true ∧ t.bfar = a ∧
          (t.cfsr.mmarvalid = s.cfsr.mmarvalid ∧ t.mmfar = s.mmfar ∨ t.cfsr.mmarvalid = false))) ∧
    (s.seen.ccr.bfhfnmign = false → ∃ t, performEvent (.busError load size a) s = .next t ∧ t.lockedUp = true ∧ t.frames = s.frames ∧
      t.cfsr.preciserr = true ∧ t.bfar = a)

/-- A data access violation records in MMFAR the address of the access, or some address inside it if it is unaligned, under MMARVALID (R249, R258). The
access lies outside the block (log 47). -/
def Obligations.DataViolationRecordsAnAddressOfTheAccess : Prop :=
  ∀ (s : State) (size : Size) (a : Word), OutsideBlock a size.bytes → s.lockedUp = false →
    ∃ t, performEvent (.dataViolation size a) s = .next t ∧ t.cfsr.daccviol = true ∧ t.cfsr.mmarvalid = true ∧
      (a.toNat % size.bytes = 0 → t.mmfar = a) ∧
      ∃ d, d < size.bytes ∧ t.mmfar = a + BitVec.ofNat 32 d

/-- An imprecise data bus error of an enabled bus fault sets IMPRECISERR and makes the bus fault pending, whatever the priority, and does nothing else: it
is taken later; a disabled one is escalated, with the instruction that was about to execute in the frame (R242): at a priority above −1 it enters the hard
fault, at −1 and −2 it locks up, or, under BFHFNMIGN, is ignored, its flag set all the same (R303; DEDUCED, log 28). The enable and the BFHFNMIGN that
count are those the processor acts on (R81, R324 e; DESIGN CHOICE, log 20). -/
def Obligations.ImpreciseBusErrorBecomesPending : Prop :=
  ∀ (s : State) (i : Nat) (next : Word), i < s.writeBuffer.length → s.actlr.disdefwbuf = false →
    (s.seen.ena.busfault = true → performEvent (.drain i true next) s =
      .next ({ s with writeBuffer := s.writeBuffer.eraseIdx i, cfsr := { s.cfsr with impreciserr := true } }.setPending 5 true)) ∧
    (s.seen.ena.busfault = false → s.entryErrors = [] → -1 < currentPriority s → ∃ t, performEvent (.drain i true next) s = .next t ∧
      t.cfsr = { s.cfsr with impreciserr := true } ∧ t.bfar = s.bfar ∧ t.mmfar = s.mmfar ∧ t.hfsr = { s.hfsr with forced := true } ∧
      t.isPending 5 = s.isPending 5 ∧ Entered excHardFault { s with pc := next } t) ∧
    (s.seen.ena.busfault = false → currentPriority s ≤ -1 → performEvent (.drain i true next) s =
      .next { s with
        writeBuffer := s.writeBuffer.eraseIdx i
        cfsr := { s.cfsr with impreciserr := true }
        pc := next
        lockedUp := s.lockedUp || !s.seen.ccr.bfhfnmign })

/-- A divide by zero returns the quotient 0 and nothing else happens with DIV_0_TRP = 0; with 1 it is the usage fault DIVBYZERO, which writes no
destination (R192, R232). The DIV_0_TRP that counts is the one the processor acts on (R81, R324 e; DESIGN CHOICE, log 20). -/
def Obligations.DivideByZeroTrapsOrReturnsZero : Prop :=
  ∀ s : State,
    (s.seen.ccr.div0Trp = false → performEvent .divideByZero s = .next { s with destWrite := some 0#32 }) ∧
    (s.seen.ccr.div0Trp = true → s.lockedUp = false → ∃ t, performEvent .divideByZero s = .next t ∧
      t = reportFault .divbyzero .none s ∧ t.cfsr.divbyzero = true ∧
      t.destWrite = s.destWrite ∧ (s.entryErrors = [] → canTake s 6 = true → Entered 6 s t))

/-- In ordinary memory an unaligned halfword or word access traps under UNALIGN_TRP, and always for LDM, STM, LDRD and STRD, given as one access or as a number
of words; every other access is performed and changes nothing here (R193; the UNALIGN_TRP that counts is the one the processor acts on, DESIGN CHOICE,
log 20). A store that may use the write buffer traps in the same way, and is then neither buffered nor performed; every other is held in the buffer under
DISDEFWBUF = 0 (R83). An access that touches a register of the block is refused whatever UNALIGN_TRP says: unaligned or of a size that the register does
not allow (R75), by a multi-register or doubleword instruction, whichever of its words it is (R88, D28), and a fetch, also that of the instruction the
processor comes to (R85, D20; log 47). No bus error and no access violation of such an access is reported either: it is refused in the same way, and one
that is an operation of the block has that operation's meaning, its fault if it is unprivileged too (R79). -/
def Obligations.UnalignedAccessTraps : Prop :=
  ∀ (s : State) (multi : Bool) (size : Size) (a : Word),
    (OutsideBlock a size.bytes →
      (a.toNat % size.bytes = 0 ∨ multi = false ∧ s.seen.ccr.unalignTrp = false →
        performEvent (.dataAccess multi size a) s = .next s) ∧
      (a.toNat % size.bytes ≠ 0 → multi = true ∨ s.seen.ccr.unalignTrp = true → s.lockedUp = false →
        ∃ t, performEvent (.dataAccess multi size a) s = .next t ∧ t = reportFault .unaligned .none s ∧ t.cfsr.unaligned = true ∧
          t.mmfar = s.mmfar ∧ t.bfar = s.bfar)) ∧
    (∀ k, k < size.bytes → isListed (a + BitVec.ofNat 32 k) = true →
      performEvent (.dataAccess true size a) s = .refused .multiAccessToScb ∧
      (a.toNat % size.bytes ≠ 0 ∨ size ≠ .word ∧ isByteAccessible a = false →
        performEvent (.dataAccess false size a) s = .refused .unsupportedAccess) ∧
      (a.toNat % size.bytes = 0 → size = .word ∨ isByteAccessible a = true →
        performEvent (.dataAccess false size a) s = .refused .accessIsAnOperation) ∧
      performEvent (.fetch a size) s = .refused .fetchFromScb ∧
      (∀ load, performEvent (.busError load size a) s = performEvent (.dataAccess false size a) s) ∧
      performEvent (.dataViolation size a) s = performEvent (.dataAccess false size a) s ∧
      (size = .word → performEvent (.lazyBusError a) s = performEvent (.dataAccess false size a) s ∧
        performEvent (.lazyViolation a) s = performEvent (.dataAccess false size a) s)) ∧
    (∀ words k, k < 4 * words → isListed (a + BitVec.ofNat 32 k) = true →
      performEvent (.multiAccess a words) s = .refused .multiAccessToScb) ∧
    (∀ words, OutsideBlock a (4 * words) →
      (a.toNat % 4 = 0 → performEvent (.multiAccess a words) s = .next s) ∧
      (a.toNat % 4 ≠ 0 → s.lockedUp = false →
        ∃ t, performEvent (.multiAccess a words) s = .next t ∧ t = reportFault .unaligned .none s ∧ t.cfsr.unaligned = true ∧
          t.mmfar = s.mmfar ∧ t.bfar = s.bfar)) ∧
    (∀ fails, OutsideBlock a size.bytes →
      (a.toNat % size.bytes = 0 ∨ s.seen.ccr.unalignTrp = false → s.actlr.disdefwbuf = false →
        performEvent (.bufferableStore size a fails) s = .next { s with writeBuffer := s.writeBuffer ++ [a] }) ∧
      (a.toNat % size.bytes ≠ 0 → s.seen.ccr.unalignTrp = true → s.lockedUp = false →
        ∃ t, performEvent (.bufferableStore size a fails) s = .next t ∧ t = reportFault .unaligned .none s ∧ t.cfsr.unaligned = true ∧
          t.mmfar = s.mmfar ∧ t.bfar = s.bfar ∧ t.writeBuffer = s.writeBuffer)) ∧
    (∀ sp, (OutsideBlock a 4 → performEvent (.core a sp) s = .next { s with pc := a, sp := sp }) ∧
      (∀ k, k < 4 → isListed (a + BitVec.ofNat 32 k) = true → performEvent (.core a sp) s = .refused .fetchFromScb))

/-! ## Taking an exception and returning from one -/

/-- The processor takes an exception exactly when one may preempt (R309), and the one it takes is pending, enabled, unmasked, and of the highest priority
among such (R308; the lowest number among equals is the model's choice, log 13); its handler is entered (R305, R311; entry without errors, log 22), with the
instruction that would have executed next in the frame (R313; PRESUMED, log 42). Enables, priorities and PRIGROUP are those the processor acts on (R324 e;
log 20). -/
def Obligations.HighestPriorityExceptionIsTaken : Prop :=
  ∀ (s : State) (next : Word), s.entryErrors = [] →
    ((∀ n, n < 128 → 1 ≤ n → mayPreempt s n = false) → performEvent (.takeException false next) s = .next s) ∧
    (∀ n, n < 128 → 1 ≤ n → mayPreempt s n = true →
      ∃ m t, 1 ≤ m ∧ m < 128 ∧ mayPreempt s m = true ∧
        (prio s.asSeen m < prio s.asSeen n ∨ prio s.asSeen m = prio s.asSeen n ∧ m ≤ n) ∧
        performEvent (.takeException false next) s = .next t ∧ Entered m { s with pc := next } t ∧ SameConfig s t ∧ SameRest s t ∧
        t.cfsr = s.cfsr ∧ t.hfsr = s.hfsr ∧ ∀ k, k ≠ m → t.isPending k = s.isPending k)

/-- With DISMCYCINT = 1 no exception is taken inside a load or store multiple; with 0 it is taken there as anywhere else. -/
def Obligations.DismcycintHoldsExceptionsBack : Prop :=
  ∀ (s : State) (next : Word),
    (s.actlr.dismcycint = true → performEvent (.takeException true next) s = .next s) ∧
    (s.actlr.dismcycint = false → performEvent (.takeException true next) s = performEvent (.takeException false next) s)

/-- Two exceptions of configurable priority and the same group priority never preempt each other, whatever their subpriorities; under PRIGROUP = 0b111 no
configurable exception preempts another (R309). Every active exception counts, preempted ones too: the current priority is the highest of all active ones
(DEDUCED, log 18); priorities and PRIGROUP are those the processor acts on (log 20). -/
def Obligations.EqualGroupPriorityNeverPreempts : Prop :=
  ∀ (s : State) (n m : Nat), isConfigurable n → isConfigurable m → 1 ≤ m → m < 128 → s.isActive m = true →
    (groupValue (configPrio s.asSeen n) s.seen.prigroup = groupValue (configPrio s.asSeen m) s.seen.prigroup → mayPreempt s n = false) ∧
    (s.seen.prigroup = 0b111#3 → mayPreempt s n = false)

/-- Table 50: for each PRIGROUP the group priority and the subpriority of a priority value, and the value that comparisons use. -/
def Obligations.PrioritySplitFollowsTable50 : Prop :=
  ∀ l : BitVec 4,
    (∀ g : BitVec 3, g.toNat ≤ 3 → groupValue (prioByte l) g = prioByte l ∧ subPrio (prioByte l) g = 0) ∧
    (groupPrio (prioByte l) 0b100#3 = l.toNat / 2 ∧ subPrio (prioByte l) 0b100#3 = l.toNat % 2) ∧
    (groupPrio (prioByte l) 0b101#3 = l.toNat / 4 ∧ subPrio (prioByte l) 0b101#3 = l.toNat % 4) ∧
    (groupPrio (prioByte l) 0b110#3 = l.toNat / 8 ∧ subPrio (prioByte l) 0b110#3 = l.toNat % 8) ∧
    (groupPrio (prioByte l) 0b111#3 = 0 ∧ subPrio (prioByte l) 0b111#3 = l.toNat) ∧
    (∀ g : BitVec 3, (groupValue (prioByte l) g).toNat = groupPrio (prioByte l) g * 2 ^ (g.toNat + 1))

/-- The frame of an entry stands at a multiple of 8 under STKALIGN = 1 and at a multiple of 4 under 0, and the return's use of the stacked alignment bit
gives back the SP of before, if that was a multiple of 4 (R190; that the bit is 1 exactly when the SP was moved is from general knowledge, log 37; STKALIGN as the processor
acts on it, log 20). -/
def Obligations.StackAlignmentIsUndoneByTheReturn : Prop :=
  ∀ s : State, ∃ f, (stackFrame s).frames = f :: s.frames ∧ (stackFrame s).sp = f.addr ∧
    (s.seen.ccr.stkalign = true → f.addr.toNat % 8 = 0) ∧ (s.seen.ccr.stkalign = false → f.addr.toNat % 4 = 0 ∧ f.align = false) ∧
    (s.sp.toNat % 4 = 0 → spAfterReturn f = s.sp)

/-- A legal return ends the returning exception, pops its frame, resumes at its PC with the preempted exception's number or 0, and, to Thread mode with no
exception left active, sleeps under SLEEPONEXIT as SLEEPDEEP says instead (R184). What is legal beyond R195 is the model's choice (log 24), and so is the
address that the frame is unstacked from (log 37). The bits of SCR and CCR that count are those the processor acts on (log 20). -/
def Obligations.LegalReturnRestoresTheFrame : Prop :=
  ∀ (s : State) (toThread : Bool) (f : Frame) (fs : List Frame),
    s.frames = f :: fs → returnLegal toThread true f s = true →
    ∃ t, performEvent (.exceptionReturn toThread true none) s = .next t ∧
      (∀ m, t.isActive m = (s.isActive m && decide (m ≠ s.ipsr.toNat))) ∧ t.pending = s.pending ∧
      t.frames = fs ∧ t.pc = f.pc ∧ t.sp = spAfterReturn f ∧ t.ipsr = (if toThread then 0#9 else f.exc) ∧
      (toThread = true → s.seen.scr.sleeponexit = true → (∀ m, 1 ≤ m → m ≠ s.ipsr.toNat → s.isActive m = false) →
        t.power = .asleep .onExit s.seen.scr.sleepdeep) ∧
      (toThread = false ∨ s.seen.scr.sleeponexit = false ∨ (∃ m, 1 ≤ m ∧ m ≠ s.ipsr.toNat ∧ s.isActive m = true) → t.power = .running) ∧
      t.cfsr = s.cfsr ∧ t.hfsr = s.hfsr ∧ SameConfig s t ∧ SameRest s t

/-- With NONBASETHRDENA = 0 a return to Thread mode that would leave an exception active is the usage fault INVPC: reported with no address, the
returning exception still active (that it still is, is the model's choice: DESIGN CHOICE, log 24). With 1 that alone does not make it illegal. The bit is
the one the processor acts on (log 20). -/
def Obligations.ReturnToThreadNeedsNoneActive : Prop :=
  ∀ (s : State) (f : Frame) (fs : List Frame) (m : Nat),
    s.frames = f :: fs → 1 ≤ m → m < 128 → m ≠ s.ipsr.toNat → s.isActive m = true →
    (s.seen.ccr.nonbasethrdena = false →
      performEvent (.exceptionReturn true true none) s = .next (reportFault .invpc .none s)) ∧
    (s.seen.ccr.nonbasethrdena = true → s.ipsr ≠ 0#9 → s.isActive s.ipsr.toNat = true → returnLegal true true f s = true)

/-- An error while unstacking is chained to the handler: the flag is set, and if the fault can be taken its handler is entered with the original frames
still on the stack and the SP not adjusted, no new frame stacked. That the returning exception is no longer active then is DEDUCED (log 25). -/
def Obligations.UnstackingErrorIsChained : Prop :=
  ∀ (s : State) (toThread : Bool) (f : Frame) (fs : List Frame) (k : StackError),
    s.frames = f :: fs → returnLegal toThread true f s = true → s.lockedUp = false → s.entryErrors = [] →
    ∃ t, performEvent (.exceptionReturn toThread true (some k)) s = .next t ∧
      cfsrHas t.cfsr (unstackingCause k) = true ∧ t.frames = s.frames ∧ t.sp = s.sp ∧ AddressesKept s t ∧
      (canTake (s.setActive s.ipsr.toNat false) (causeClass (unstackingCause k)) = true →
        t.ipsr = BitVec.ofNat 9 (causeClass (unstackingCause k)) ∧ t.isActive (causeClass (unstackingCause k)) = true)

/-- An error while stacking sets its flag and records no address, VALID bits and all; the SP is adjusted as for a successful stacking: the frame starts where the entry without an
error would put it. If the fault's own entry stacks nothing the SP points to that frame, and else to a second one, placed below it by the same rule. When
the error is reported, and that the report's entry meets the next of the errors to come, is the model's choice (DESIGN CHOICE, log 22). -/
def Obligations.StackingErrorStillAdjustsTheSp : Prop :=
  ∀ (s : State) (n : Nat) (k : StackError),
    s.lockedUp = false → s.entryErrors = [⟨[k], false, false⟩] →
    cfsrHas (takeException n s).cfsr (stackingCause k) = true ∧ AddressesKept s (takeException n s) ∧
    ∃ f : Frame, f.addr = (stackFrame s).sp ∧ f.addr = frameAddr s f.words ∧
      ((takeException n s).frames = f :: s.frames ∧ (takeException n s).sp = f.addr ∨
        ∃ g : Frame, (takeException n s).frames = g :: f :: s.frames ∧ (takeException n s).sp = g.addr ∧
          g.addr = frameAddr { s with sp := f.addr } g.words)

/-- A bus error on the vector table read sets VECTTBL, not FORCED and no flag of CFSR, and the hard fault handler is entered in place of the exception's
own, with the frame that holds the instruction it preempted. That the exception stays pending is DEDUCED (log 23), and so is the lock-up where the hard
fault's own vector cannot be read either: VECTTBL is set, and nothing is entered. -/
def Obligations.VectorErrorEntersTheHardFault : Prop :=
  ∀ (s : State) (n : Nat), n ≠ excHardFault → -1 < currentPriority s →
    (s.entryErrors = [⟨[], true, false⟩] →
      (takeException n s).hfsr = { s.hfsr with vecttbl := true } ∧ (takeException n s).cfsr = s.cfsr ∧
      Entered excHardFault s (takeException n s) ∧
      ∀ m, m ≠ excHardFault → (takeException n s).isPending m = s.isPending m) ∧
    (s.entryErrors = [⟨[], true, true⟩] →
      (takeException n s).hfsr = { s.hfsr with vecttbl := true } ∧ (takeException n s).cfsr = s.cfsr ∧
      (takeException n s).lockedUp = true ∧ (takeException n s).ipsr = s.ipsr ∧
      (takeException n s).pending = s.pending ∧ (takeException n s).active = s.active)

/-! ## Requests, inputs, reset -/

/-- An interrupt line makes its exception pending, enabled or not; it is an event under SEVONPEND exactly when it enters the pending state: the event is
registered and wakes a processor in WFE. The SEVONPEND that counts is the one the processor acts on (log 20). -/
def Obligations.InterruptRequestPendsAndSignals : Prop :=
  ∀ (s : State) (k : Nat), k < s.params.numIrq.val →
    ∃ t, performEvent (.irq k) s = .next t ∧ (∀ m, t.isPending m = (s.isPending m || m == 16 + k)) ∧ t.active = s.active ∧
      (s.seen.scr.sevonpend = true → s.isPending (16 + k) = false →
        t.eventRegister = true ∧ ∀ d, s.power = .asleep .wfe d → t.power = .running) ∧
      (s.seen.scr.sevonpend = false ∨ s.isPending (16 + k) = true → t.eventRegister = s.eventRegister ∧ t.power = s.power) ∧
      SameConfig s t

/-- An AUXFAULT input that goes HIGH sets its AFSR bit, and no exception occurs and nothing else changes: the latch alone (R264, R265). That the inputs have a
level, latched when it is set, is the model's choice (DESIGN CHOICE, log 31). -/
def Obligations.AuxfaultIsLatchedWithoutAnException : Prop :=
  ∀ (s : State) (level : Word) (rest : List Stimulus), s.lockedUp = false → s.schedule = .event (.auxfault level) :: rest →
    step s = .next { s with schedule := rest, auxfault := level, afsr := s.afsr ||| level }

/-- After a reset every register of the block reads its reset value (ICSR apart from the bits that read unknown), nothing is pending or active and the processor
is in Thread mode and acts on the reset values, whatever the state before, lock-up included. Of MMFAR, BFAR and AFSR nothing is said: they are unknown. For exceptions without a window
the value is the spec's decision D23 (log 19). -/
def Obligations.ResetGivesEveryRegisterItsResetValue : Prop :=
  ∀ (s : State) (rest : List Stimulus), s.schedule = .event .reset :: rest →
    ∃ t, step s = .next t ∧ t.schedule = rest ∧ t.lockedUp = false ∧ t.ipsr = 0#9 ∧ t.sysresetreq = false ∧
      (∀ n, t.isPending n = false) ∧ (∀ n, t.isActive n = false) ∧ t.params = s.params ∧ t.asSeen = t ∧
      Answers (exec (.rdActlr true) t) t (.word 0x00000000#32) ∧
      Answers (exec (.rdCpuid true) t) t (.word 0x410FC241#32) ∧
      (∃ w, exec (.rdIcsr true) t = .next { t with readData := some (.word w), drawn := t.drawn + 3 } ∧
        w &&& 0xF5FFF7FF#32 = 0#32) ∧
      Answers (exec (.rdVtor true) t) t (.word 0x00000000#32) ∧
      Answers (exec (.rdAircr true) t) t (.word 0xFA050000#32) ∧
      Answers (exec (.rdScr true) t) t (.word 0x00000000#32) ∧
      Answers (exec (.rdCcr true) t) t (.word 0x00000200#32) ∧
      Answers (exec (.rdShpr1 true) t) t (.word 0x00000000#32) ∧
      Answers (exec (.rdShpr2 true) t) t (.word 0x00000000#32) ∧
      Answers (exec (.rdShpr3 true) t) t (.word 0x00000000#32) ∧
      Answers (exec (.rdShcsr true) t) t (.word 0x00000000#32) ∧
      Answers (exec (.rdCfsr true) t) t (.word 0x00000000#32) ∧
      Answers (exec (.rdHfsr true) t) t (.word 0x00000000#32)
end

