-- ==== Sys2Proof/Laws/Bits.lean ====
section
/-! SUPPORT. The bits of a placed field, of a lane, and of CFSR. -/

namespace Sys2Proof.Machine

@[simp] theorem getLsbD_bitAt (b : Bool) (i j : Nat) : (bitAt b i).getLsbD j = (b && decide (i = j) && decide (j < 32)) := by
  cases b
  · simp [bitAt]
  · by_cases h : j < 32 <;> by_cases h' : i = j <;> simp [bitAt, h, h']
    omega

@[simp] theorem getElem_bitAt (b : Bool) (i j : Nat) (h : j < 32) : (bitAt b i)[j] = (b && decide (i = j)) := by
  rw [← BitVec.getLsbD_eq_getElem, getLsbD_bitAt]; simp [h]

@[simp] theorem getLsbD_fieldAt {w : Nat} (v : BitVec w) (i j : Nat) :
    (fieldAt v i).getLsbD j = (decide (j < 32) && decide (i ≤ j) && v.getLsbD (j - i)) := by
  simp only [fieldAt, BitVec.getLsbD_shiftLeft, BitVec.getLsbD_setWidth]
  by_cases h : j < 32
  · by_cases h' : i ≤ j
    · have : j - i < 32 := by omega
      simp [h, h', this]
    · simp [h, h']
  · simp [h]

@[simp] theorem getElem_fieldAt {w : Nat} (v : BitVec w) (i j : Nat) (h : j < 32) :
    (fieldAt v i)[j] = (decide (i ≤ j) && v.getLsbD (j - i)) := by
  rw [← BitVec.getLsbD_eq_getElem, getLsbD_fieldAt]; simp [h]

@[simp] theorem hasBits_eq_false {v r : Word} : hasBits v r = false ↔ v &&& r = 0#32 := by simp [hasBits]

@[simp] theorem hasBits_eq_true {v r : Word} : hasBits v r = true ↔ v &&& r ≠ 0#32 := by simp [hasBits]

/-- A word that carries no reserved bit is 0 in each reserved position. -/
theorem getLsbD_of_and_eq_zero {v r : Word} (h : v &&& r = 0#32) (i : Nat) (hr : r.getLsbD i = true) : v.getLsbD i = false := by
  have := congrArg (fun w => w.getLsbD i) h
  simpa [hr] using this

/-- Reading back the word made of CFSR's flags gives the flags. -/
@[simp] theorem cfsrOfWord_cfsrWord (f : Cfsr) : cfsrOfWord (cfsrWord f) = f := by
  cases f; simp [cfsrOfWord, cfsrWord]

end Sys2Proof.Machine
end

