-- ==== Sys2Proof/Laws/State.lean ====
section
/-! SUPPORT. One lemma per field per update of the state, each true by rfl, and the reads of the exception arrays after their writes. -/

namespace Sys2Proof.Machine

/-! ## The exception arrays -/

@[simp] theorem isPending_setPending (s : State) (n m : Nat) (b : Bool) :
    (s.setPending n b).isPending m = if n = m ∧ n < 128 then b else s.isPending m := by
  simp only [State.isPending, State.setPending, Vector.getElem?_setIfInBounds]
  by_cases h : n = m <;> by_cases h' : n < 128 <;> simp [h, h'] <;> (subst h; simp [h'])

@[simp] theorem isActive_setActive (s : State) (n m : Nat) (b : Bool) :
    (s.setActive n b).isActive m = if n = m ∧ n < 128 then b else s.isActive m := by
  simp only [State.isActive, State.setActive, Vector.getElem?_setIfInBounds]
  by_cases h : n = m <;> by_cases h' : n < 128 <;> simp [h, h'] <;> (subst h; simp [h'])

@[simp] theorem isActive_setPending (s : State) (n m : Nat) (b : Bool) : (s.setPending n b).isActive m = s.isActive m := rfl
@[simp] theorem isPending_setActive (s : State) (n m : Nat) (b : Bool) : (s.setActive n b).isPending m = s.isPending m := rfl
@[simp] theorem isPending_bump (s : State) (k m : Nat) : (s.bump k).isPending m = s.isPending m := rfl
@[simp] theorem isActive_bump (s : State) (k m : Nat) : (s.bump k).isActive m = s.isActive m := rfl
@[simp] theorem isPending_lockUp (s : State) (m : Nat) : s.lockUp.isPending m = s.isPending m := rfl
@[simp] theorem isActive_lockUp (s : State) (m : Nat) : s.lockUp.isActive m = s.isActive m := rfl
@[simp] theorem isPending_stackFrame (s : State) (m : Nat) : (stackFrame s).isPending m = s.isPending m := rfl
@[simp] theorem isActive_stackFrame (s : State) (m : Nat) : (stackFrame s).isActive m = s.isActive m := rfl

@[simp] theorem isPending_fetchVector (s : State) (n m : Nat) : (fetchVector n s).isPending m = s.isPending m := rfl
@[simp] theorem isActive_fetchVector (s : State) (n m : Nat) : (fetchVector n s).isActive m = s.isActive m := rfl
@[simp] theorem isPending_asSeen (s : State) (m : Nat) : s.asSeen.isPending m = s.isPending m := rfl
@[simp] theorem isActive_asSeen (s : State) (m : Nat) : s.asSeen.isActive m = s.isActive m := rfl
@[simp] theorem isPending_observe (s : State) (r : SettingReg) (m : Nat) : (s.observe r).isPending m = s.isPending m := rfl
@[simp] theorem isActive_observe (s : State) (r : SettingReg) (m : Nat) : (s.observe r).isActive m = s.isActive m := rfl

@[simp] theorem isPending_activate (n m : Nat) (s : State) :
    (activate n s).isPending m = if n = m ∧ n < 128 then false else s.isPending m := by
  show ((s.setPending n false).setActive n true).isPending m = _
  simp

@[simp] theorem isActive_activate (n m : Nat) (s : State) :
    (activate n s).isActive m = if n = m ∧ n < 128 then true else s.isActive m := by
  show ((s.setPending n false).setActive n true).isActive m = _
  simp

/-! ## Fields that an update leaves -/

@[simp] theorem setPending_actlr (s : State) (n : Nat) (b : Bool) : (s.setPending n b).actlr = s.actlr := rfl
@[simp] theorem setPending_tbloff (s : State) (n : Nat) (b : Bool) : (s.setPending n b).tbloff = s.tbloff := rfl
@[simp] theorem setPending_prigroup (s : State) (n : Nat) (b : Bool) : (s.setPending n b).prigroup = s.prigroup := rfl
@[simp] theorem setPending_scr (s : State) (n : Nat) (b : Bool) : (s.setPending n b).scr = s.scr := rfl
@[simp] theorem setPending_ccr (s : State) (n : Nat) (b : Bool) : (s.setPending n b).ccr = s.ccr := rfl
@[simp] theorem setPending_pri (s : State) (n : Nat) (b : Bool) : (s.setPending n b).pri = s.pri := rfl
@[simp] theorem setPending_ena (s : State) (n : Nat) (b : Bool) : (s.setPending n b).ena = s.ena := rfl
@[simp] theorem setPending_cfsr (s : State) (n : Nat) (b : Bool) : (s.setPending n b).cfsr = s.cfsr := rfl
@[simp] theorem setPending_hfsr (s : State) (n : Nat) (b : Bool) : (s.setPending n b).hfsr = s.hfsr := rfl
@[simp] theorem setPending_mmfar (s : State) (n : Nat) (b : Bool) : (s.setPending n b).mmfar = s.mmfar := rfl
@[simp] theorem setPending_bfar (s : State) (n : Nat) (b : Bool) : (s.setPending n b).bfar = s.bfar := rfl
@[simp] theorem setPending_afsr (s : State) (n : Nat) (b : Bool) : (s.setPending n b).afsr = s.afsr := rfl
@[simp] theorem setPending_sysresetreq (s : State) (n : Nat) (b : Bool) : (s.setPending n b).sysresetreq = s.sysresetreq := rfl
@[simp] theorem setPending_seen (s : State) (n : Nat) (b : Bool) : (s.setPending n b).seen = s.seen := rfl
@[simp] theorem setPending_active (s : State) (n : Nat) (b : Bool) : (s.setPending n b).active = s.active := rfl
@[simp] theorem setPending_ipsr (s : State) (n : Nat) (b : Bool) : (s.setPending n b).ipsr = s.ipsr := rfl
@[simp] theorem setPending_nvicEnabled (s : State) (n : Nat) (b : Bool) : (s.setPending n b).nvicEnabled = s.nvicEnabled := rfl
@[simp] theorem setPending_nvicPrio (s : State) (n : Nat) (b : Bool) : (s.setPending n b).nvicPrio = s.nvicPrio := rfl
@[simp] theorem setPending_primaskHolds (s : State) (n : Nat) (b : Bool) : (s.setPending n b).primaskHolds = s.primaskHolds := rfl
@[simp] theorem setPending_maskedHolds (s : State) (n : Nat) (b : Bool) : (s.setPending n b).maskedHolds = s.maskedHolds := rfl
@[simp] theorem setPending_maskPriority (s : State) (n : Nat) (b : Bool) : (s.setPending n b).maskPriority = s.maskPriority := rfl
@[simp] theorem setPending_eventRegister (s : State) (n : Nat) (b : Bool) : (s.setPending n b).eventRegister = s.eventRegister := rfl
@[simp] theorem setPending_pc (s : State) (n : Nat) (b : Bool) : (s.setPending n b).pc = s.pc := rfl
@[simp] theorem setPending_sp (s : State) (n : Nat) (b : Bool) : (s.setPending n b).sp = s.sp := rfl
@[simp] theorem setPending_fpca (s : State) (n : Nat) (b : Bool) : (s.setPending n b).fpca = s.fpca := rfl
@[simp] theorem setPending_frames (s : State) (n : Nat) (b : Bool) : (s.setPending n b).frames = s.frames := rfl
@[simp] theorem setPending_writeBuffer (s : State) (n : Nat) (b : Bool) : (s.setPending n b).writeBuffer = s.writeBuffer := rfl
@[simp] theorem setPending_power (s : State) (n : Nat) (b : Bool) : (s.setPending n b).power = s.power := rfl
@[simp] theorem setPending_lockedUp (s : State) (n : Nat) (b : Bool) : (s.setPending n b).lockedUp = s.lockedUp := rfl
@[simp] theorem setPending_auxfault (s : State) (n : Nat) (b : Bool) : (s.setPending n b).auxfault = s.auxfault := rfl
@[simp] theorem setPending_readData (s : State) (n : Nat) (b : Bool) : (s.setPending n b).readData = s.readData := rfl
@[simp] theorem setPending_destWrite (s : State) (n : Nat) (b : Bool) : (s.setPending n b).destWrite = s.destWrite := rfl
@[simp] theorem setPending_entryErrors (s : State) (n : Nat) (b : Bool) : (s.setPending n b).entryErrors = s.entryErrors := rfl
@[simp] theorem setPending_vectorFetch (s : State) (n : Nat) (b : Bool) : (s.setPending n b).vectorFetch = s.vectorFetch := rfl
@[simp] theorem setPending_drawn (s : State) (n : Nat) (b : Bool) : (s.setPending n b).drawn = s.drawn := rfl
@[simp] theorem setPending_params (s : State) (n : Nat) (b : Bool) : (s.setPending n b).params = s.params := rfl
@[simp] theorem setPending_schedule (s : State) (n : Nat) (b : Bool) : (s.setPending n b).schedule = s.schedule := rfl

@[simp] theorem setActive_actlr (s : State) (n : Nat) (b : Bool) : (s.setActive n b).actlr = s.actlr := rfl
@[simp] theorem setActive_tbloff (s : State) (n : Nat) (b : Bool) : (s.setActive n b).tbloff = s.tbloff := rfl
@[simp] theorem setActive_prigroup (s : State) (n : Nat) (b : Bool) : (s.setActive n b).prigroup = s.prigroup := rfl
@[simp] theorem setActive_scr (s : State) (n : Nat) (b : Bool) : (s.setActive n b).scr = s.scr := rfl
@[simp] theorem setActive_ccr (s : State) (n : Nat) (b : Bool) : (s.setActive n b).ccr = s.ccr := rfl
@[simp] theorem setActive_pri (s : State) (n : Nat) (b : Bool) : (s.setActive n b).pri = s.pri := rfl
@[simp] theorem setActive_ena (s : State) (n : Nat) (b : Bool) : (s.setActive n b).ena = s.ena := rfl
@[simp] theorem setActive_cfsr (s : State) (n : Nat) (b : Bool) : (s.setActive n b).cfsr = s.cfsr := rfl
@[simp] theorem setActive_hfsr (s : State) (n : Nat) (b : Bool) : (s.setActive n b).hfsr = s.hfsr := rfl
@[simp] theorem setActive_mmfar (s : State) (n : Nat) (b : Bool) : (s.setActive n b).mmfar = s.mmfar := rfl
@[simp] theorem setActive_bfar (s : State) (n : Nat) (b : Bool) : (s.setActive n b).bfar = s.bfar := rfl
@[simp] theorem setActive_afsr (s : State) (n : Nat) (b : Bool) : (s.setActive n b).afsr = s.afsr := rfl
@[simp] theorem setActive_sysresetreq (s : State) (n : Nat) (b : Bool) : (s.setActive n b).sysresetreq = s.sysresetreq := rfl
@[simp] theorem setActive_seen (s : State) (n : Nat) (b : Bool) : (s.setActive n b).seen = s.seen := rfl
@[simp] theorem setActive_pending (s : State) (n : Nat) (b : Bool) : (s.setActive n b).pending = s.pending := rfl
@[simp] theorem setActive_ipsr (s : State) (n : Nat) (b : Bool) : (s.setActive n b).ipsr = s.ipsr := rfl
@[simp] theorem setActive_nvicEnabled (s : State) (n : Nat) (b : Bool) : (s.setActive n b).nvicEnabled = s.nvicEnabled := rfl
@[simp] theorem setActive_nvicPrio (s : State) (n : Nat) (b : Bool) : (s.setActive n b).nvicPrio = s.nvicPrio := rfl
@[simp] theorem setActive_primaskHolds (s : State) (n : Nat) (b : Bool) : (s.setActive n b).primaskHolds = s.primaskHolds := rfl
@[simp] theorem setActive_maskedHolds (s : State) (n : Nat) (b : Bool) : (s.setActive n b).maskedHolds = s.maskedHolds := rfl
@[simp] theorem setActive_maskPriority (s : State) (n : Nat) (b : Bool) : (s.setActive n b).maskPriority = s.maskPriority := rfl
@[simp] theorem setActive_eventRegister (s : State) (n : Nat) (b : Bool) : (s.setActive n b).eventRegister = s.eventRegister := rfl
@[simp] theorem setActive_pc (s : State) (n : Nat) (b : Bool) : (s.setActive n b).pc = s.pc := rfl
@[simp] theorem setActive_sp (s : State) (n : Nat) (b : Bool) : (s.setActive n b).sp = s.sp := rfl
@[simp] theorem setActive_fpca (s : State) (n : Nat) (b : Bool) : (s.setActive n b).fpca = s.fpca := rfl
@[simp] theorem setActive_frames (s : State) (n : Nat) (b : Bool) : (s.setActive n b).frames = s.frames := rfl
@[simp] theorem setActive_writeBuffer (s : State) (n : Nat) (b : Bool) : (s.setActive n b).writeBuffer = s.writeBuffer := rfl
@[simp] theorem setActive_power (s : State) (n : Nat) (b : Bool) : (s.setActive n b).power = s.power := rfl
@[simp] theorem setActive_lockedUp (s : State) (n : Nat) (b : Bool) : (s.setActive n b).lockedUp = s.lockedUp := rfl
@[simp] theorem setActive_auxfault (s : State) (n : Nat) (b : Bool) : (s.setActive n b).auxfault = s.auxfault := rfl
@[simp] theorem setActive_readData (s : State) (n : Nat) (b : Bool) : (s.setActive n b).readData = s.readData := rfl
@[simp] theorem setActive_destWrite (s : State) (n : Nat) (b : Bool) : (s.setActive n b).destWrite = s.destWrite := rfl
@[simp] theorem setActive_entryErrors (s : State) (n : Nat) (b : Bool) : (s.setActive n b).entryErrors = s.entryErrors := rfl
@[simp] theorem setActive_vectorFetch (s : State) (n : Nat) (b : Bool) : (s.setActive n b).vectorFetch = s.vectorFetch := rfl
@[simp] theorem setActive_drawn (s : State) (n : Nat) (b : Bool) : (s.setActive n b).drawn = s.drawn := rfl
@[simp] theorem setActive_params (s : State) (n : Nat) (b : Bool) : (s.setActive n b).params = s.params := rfl
@[simp] theorem setActive_schedule (s : State) (n : Nat) (b : Bool) : (s.setActive n b).schedule = s.schedule := rfl

@[simp] theorem bump_actlr (s : State) (k : Nat) : (s.bump k).actlr = s.actlr := rfl
@[simp] theorem bump_tbloff (s : State) (k : Nat) : (s.bump k).tbloff = s.tbloff := rfl
@[simp] theorem bump_prigroup (s : State) (k : Nat) : (s.bump k).prigroup = s.prigroup := rfl
@[simp] theorem bump_scr (s : State) (k : Nat) : (s.bump k).scr = s.scr := rfl
@[simp] theorem bump_ccr (s : State) (k : Nat) : (s.bump k).ccr = s.ccr := rfl
@[simp] theorem bump_pri (s : State) (k : Nat) : (s.bump k).pri = s.pri := rfl
@[simp] theorem bump_ena (s : State) (k : Nat) : (s.bump k).ena = s.ena := rfl
@[simp] theorem bump_cfsr (s : State) (k : Nat) : (s.bump k).cfsr = s.cfsr := rfl
@[simp] theorem bump_hfsr (s : State) (k : Nat) : (s.bump k).hfsr = s.hfsr := rfl
@[simp] theorem bump_mmfar (s : State) (k : Nat) : (s.bump k).mmfar = s.mmfar := rfl
@[simp] theorem bump_bfar (s : State) (k : Nat) : (s.bump k).bfar = s.bfar := rfl
@[simp] theorem bump_afsr (s : State) (k : Nat) : (s.bump k).afsr = s.afsr := rfl
@[simp] theorem bump_sysresetreq (s : State) (k : Nat) : (s.bump k).sysresetreq = s.sysresetreq := rfl
@[simp] theorem bump_seen (s : State) (k : Nat) : (s.bump k).seen = s.seen := rfl
@[simp] theorem bump_pending (s : State) (k : Nat) : (s.bump k).pending = s.pending := rfl
@[simp] theorem bump_active (s : State) (k : Nat) : (s.bump k).active = s.active := rfl
@[simp] theorem bump_ipsr (s : State) (k : Nat) : (s.bump k).ipsr = s.ipsr := rfl
@[simp] theorem bump_nvicEnabled (s : State) (k : Nat) : (s.bump k).nvicEnabled = s.nvicEnabled := rfl
@[simp] theorem bump_nvicPrio (s : State) (k : Nat) : (s.bump k).nvicPrio = s.nvicPrio := rfl
@[simp] theorem bump_primaskHolds (s : State) (k : Nat) : (s.bump k).primaskHolds = s.primaskHolds := rfl
@[simp] theorem bump_maskedHolds (s : State) (k : Nat) : (s.bump k).maskedHolds = s.maskedHolds := rfl
@[simp] theorem bump_maskPriority (s : State) (k : Nat) : (s.bump k).maskPriority = s.maskPriority := rfl
@[simp] theorem bump_eventRegister (s : State) (k : Nat) : (s.bump k).eventRegister = s.eventRegister := rfl
@[simp] theorem bump_pc (s : State) (k : Nat) : (s.bump k).pc = s.pc := rfl
@[simp] theorem bump_sp (s : State) (k : Nat) : (s.bump k).sp = s.sp := rfl
@[simp] theorem bump_fpca (s : State) (k : Nat) : (s.bump k).fpca = s.fpca := rfl
@[simp] theorem bump_frames (s : State) (k : Nat) : (s.bump k).frames = s.frames := rfl
@[simp] theorem bump_writeBuffer (s : State) (k : Nat) : (s.bump k).writeBuffer = s.writeBuffer := rfl
@[simp] theorem bump_power (s : State) (k : Nat) : (s.bump k).power = s.power := rfl
@[simp] theorem bump_lockedUp (s : State) (k : Nat) : (s.bump k).lockedUp = s.lockedUp := rfl
@[simp] theorem bump_auxfault (s : State) (k : Nat) : (s.bump k).auxfault = s.auxfault := rfl
@[simp] theorem bump_readData (s : State) (k : Nat) : (s.bump k).readData = s.readData := rfl
@[simp] theorem bump_destWrite (s : State) (k : Nat) : (s.bump k).destWrite = s.destWrite := rfl
@[simp] theorem bump_entryErrors (s : State) (k : Nat) : (s.bump k).entryErrors = s.entryErrors := rfl
@[simp] theorem bump_vectorFetch (s : State) (k : Nat) : (s.bump k).vectorFetch = s.vectorFetch := rfl
@[simp] theorem bump_params (s : State) (k : Nat) : (s.bump k).params = s.params := rfl
@[simp] theorem bump_schedule (s : State) (k : Nat) : (s.bump k).schedule = s.schedule := rfl

@[simp] theorem lockUp_actlr (s : State) : (s.lockUp).actlr = s.actlr := rfl
@[simp] theorem lockUp_tbloff (s : State) : (s.lockUp).tbloff = s.tbloff := rfl
@[simp] theorem lockUp_prigroup (s : State) : (s.lockUp).prigroup = s.prigroup := rfl
@[simp] theorem lockUp_scr (s : State) : (s.lockUp).scr = s.scr := rfl
@[simp] theorem lockUp_ccr (s : State) : (s.lockUp).ccr = s.ccr := rfl
@[simp] theorem lockUp_pri (s : State) : (s.lockUp).pri = s.pri := rfl
@[simp] theorem lockUp_ena (s : State) : (s.lockUp).ena = s.ena := rfl
@[simp] theorem lockUp_cfsr (s : State) : (s.lockUp).cfsr = s.cfsr := rfl
@[simp] theorem lockUp_hfsr (s : State) : (s.lockUp).hfsr = s.hfsr := rfl
@[simp] theorem lockUp_mmfar (s : State) : (s.lockUp).mmfar = s.mmfar := rfl
@[simp] theorem lockUp_bfar (s : State) : (s.lockUp).bfar = s.bfar := rfl
@[simp] theorem lockUp_afsr (s : State) : (s.lockUp).afsr = s.afsr := rfl
@[simp] theorem lockUp_sysresetreq (s : State) : (s.lockUp).sysresetreq = s.sysresetreq := rfl
@[simp] theorem lockUp_seen (s : State) : (s.lockUp).seen = s.seen := rfl
@[simp] theorem lockUp_pending (s : State) : (s.lockUp).pending = s.pending := rfl
@[simp] theorem lockUp_active (s : State) : (s.lockUp).active = s.active := rfl
@[simp] theorem lockUp_ipsr (s : State) : (s.lockUp).ipsr = s.ipsr := rfl
@[simp] theorem lockUp_nvicEnabled (s : State) : (s.lockUp).nvicEnabled = s.nvicEnabled := rfl
@[simp] theorem lockUp_nvicPrio (s : State) : (s.lockUp).nvicPrio = s.nvicPrio := rfl
@[simp] theorem lockUp_primaskHolds (s : State) : (s.lockUp).primaskHolds = s.primaskHolds := rfl
@[simp] theorem lockUp_maskedHolds (s : State) : (s.lockUp).maskedHolds = s.maskedHolds := rfl
@[simp] theorem lockUp_maskPriority (s : State) : (s.lockUp).maskPriority = s.maskPriority := rfl
@[simp] theorem lockUp_eventRegister (s : State) : (s.lockUp).eventRegister = s.eventRegister := rfl
@[simp] theorem lockUp_pc (s : State) : (s.lockUp).pc = s.pc := rfl
@[simp] theorem lockUp_sp (s : State) : (s.lockUp).sp = s.sp := rfl
@[simp] theorem lockUp_fpca (s : State) : (s.lockUp).fpca = s.fpca := rfl
@[simp] theorem lockUp_frames (s : State) : (s.lockUp).frames = s.frames := rfl
@[simp] theorem lockUp_writeBuffer (s : State) : (s.lockUp).writeBuffer = s.writeBuffer := rfl
@[simp] theorem lockUp_power (s : State) : (s.lockUp).power = s.power := rfl
@[simp] theorem lockUp_auxfault (s : State) : (s.lockUp).auxfault = s.auxfault := rfl
@[simp] theorem lockUp_readData (s : State) : (s.lockUp).readData = s.readData := rfl
@[simp] theorem lockUp_destWrite (s : State) : (s.lockUp).destWrite = s.destWrite := rfl
@[simp] theorem lockUp_entryErrors (s : State) : (s.lockUp).entryErrors = s.entryErrors := rfl
@[simp] theorem lockUp_vectorFetch (s : State) : (s.lockUp).vectorFetch = s.vectorFetch := rfl
@[simp] theorem lockUp_drawn (s : State) : (s.lockUp).drawn = s.drawn := rfl
@[simp] theorem lockUp_params (s : State) : (s.lockUp).params = s.params := rfl
@[simp] theorem lockUp_schedule (s : State) : (s.lockUp).schedule = s.schedule := rfl

@[simp] theorem asSeen_actlr (s : State) : (s.asSeen).actlr = s.actlr := rfl
@[simp] theorem asSeen_cfsr (s : State) : (s.asSeen).cfsr = s.cfsr := rfl
@[simp] theorem asSeen_hfsr (s : State) : (s.asSeen).hfsr = s.hfsr := rfl
@[simp] theorem asSeen_mmfar (s : State) : (s.asSeen).mmfar = s.mmfar := rfl
@[simp] theorem asSeen_bfar (s : State) : (s.asSeen).bfar = s.bfar := rfl
@[simp] theorem asSeen_afsr (s : State) : (s.asSeen).afsr = s.afsr := rfl
@[simp] theorem asSeen_sysresetreq (s : State) : (s.asSeen).sysresetreq = s.sysresetreq := rfl
@[simp] theorem asSeen_seen (s : State) : (s.asSeen).seen = s.seen := rfl
@[simp] theorem asSeen_pending (s : State) : (s.asSeen).pending = s.pending := rfl
@[simp] theorem asSeen_active (s : State) : (s.asSeen).active = s.active := rfl
@[simp] theorem asSeen_ipsr (s : State) : (s.asSeen).ipsr = s.ipsr := rfl
@[simp] theorem asSeen_nvicEnabled (s : State) : (s.asSeen).nvicEnabled = s.nvicEnabled := rfl
@[simp] theorem asSeen_nvicPrio (s : State) : (s.asSeen).nvicPrio = s.nvicPrio := rfl
@[simp] theorem asSeen_primaskHolds (s : State) : (s.asSeen).primaskHolds = s.primaskHolds := rfl
@[simp] theorem asSeen_maskedHolds (s : State) : (s.asSeen).maskedHolds = s.maskedHolds := rfl
@[simp] theorem asSeen_maskPriority (s : State) : (s.asSeen).maskPriority = s.maskPriority := rfl
@[simp] theorem asSeen_eventRegister (s : State) : (s.asSeen).eventRegister = s.eventRegister := rfl
@[simp] theorem asSeen_pc (s : State) : (s.asSeen).pc = s.pc := rfl
@[simp] theorem asSeen_sp (s : State) : (s.asSeen).sp = s.sp := rfl
@[simp] theorem asSeen_fpca (s : State) : (s.asSeen).fpca = s.fpca := rfl
@[simp] theorem asSeen_frames (s : State) : (s.asSeen).frames = s.frames := rfl
@[simp] theorem asSeen_writeBuffer (s : State) : (s.asSeen).writeBuffer = s.writeBuffer := rfl
@[simp] theorem asSeen_power (s : State) : (s.asSeen).power = s.power := rfl
@[simp] theorem asSeen_lockedUp (s : State) : (s.asSeen).lockedUp = s.lockedUp := rfl
@[simp] theorem asSeen_auxfault (s : State) : (s.asSeen).auxfault = s.auxfault := rfl
@[simp] theorem asSeen_readData (s : State) : (s.asSeen).readData = s.readData := rfl
@[simp] theorem asSeen_destWrite (s : State) : (s.asSeen).destWrite = s.destWrite := rfl
@[simp] theorem asSeen_entryErrors (s : State) : (s.asSeen).entryErrors = s.entryErrors := rfl
@[simp] theorem asSeen_vectorFetch (s : State) : (s.asSeen).vectorFetch = s.vectorFetch := rfl
@[simp] theorem asSeen_drawn (s : State) : (s.asSeen).drawn = s.drawn := rfl
@[simp] theorem asSeen_params (s : State) : (s.asSeen).params = s.params := rfl
@[simp] theorem asSeen_schedule (s : State) : (s.asSeen).schedule = s.schedule := rfl

@[simp] theorem observe_actlr (s : State) (r : SettingReg) : (s.observe r).actlr = s.actlr := rfl
@[simp] theorem observe_tbloff (s : State) (r : SettingReg) : (s.observe r).tbloff = s.tbloff := rfl
@[simp] theorem observe_prigroup (s : State) (r : SettingReg) : (s.observe r).prigroup = s.prigroup := rfl
@[simp] theorem observe_scr (s : State) (r : SettingReg) : (s.observe r).scr = s.scr := rfl
@[simp] theorem observe_ccr (s : State) (r : SettingReg) : (s.observe r).ccr = s.ccr := rfl
@[simp] theorem observe_pri (s : State) (r : SettingReg) : (s.observe r).pri = s.pri := rfl
@[simp] theorem observe_ena (s : State) (r : SettingReg) : (s.observe r).ena = s.ena := rfl
@[simp] theorem observe_cfsr (s : State) (r : SettingReg) : (s.observe r).cfsr = s.cfsr := rfl
@[simp] theorem observe_hfsr (s : State) (r : SettingReg) : (s.observe r).hfsr = s.hfsr := rfl
@[simp] theorem observe_mmfar (s : State) (r : SettingReg) : (s.observe r).mmfar = s.mmfar := rfl
@[simp] theorem observe_bfar (s : State) (r : SettingReg) : (s.observe r).bfar = s.bfar := rfl
@[simp] theorem observe_afsr (s : State) (r : SettingReg) : (s.observe r).afsr = s.afsr := rfl
@[simp] theorem observe_sysresetreq (s : State) (r : SettingReg) : (s.observe r).sysresetreq = s.sysresetreq := rfl
@[simp] theorem observe_pending (s : State) (r : SettingReg) : (s.observe r).pending = s.pending := rfl
@[simp] theorem observe_active (s : State) (r : SettingReg) : (s.observe r).active = s.active := rfl
@[simp] theorem observe_ipsr (s : State) (r : SettingReg) : (s.observe r).ipsr = s.ipsr := rfl
@[simp] theorem observe_nvicEnabled (s : State) (r : SettingReg) : (s.observe r).nvicEnabled = s.nvicEnabled := rfl
@[simp] theorem observe_nvicPrio (s : State) (r : SettingReg) : (s.observe r).nvicPrio = s.nvicPrio := rfl
@[simp] theorem observe_primaskHolds (s : State) (r : SettingReg) : (s.observe r).primaskHolds = s.primaskHolds := rfl
@[simp] theorem observe_maskedHolds (s : State) (r : SettingReg) : (s.observe r).maskedHolds = s.maskedHolds := rfl
@[simp] theorem observe_maskPriority (s : State) (r : SettingReg) : (s.observe r).maskPriority = s.maskPriority := rfl
@[simp] theorem observe_eventRegister (s : State) (r : SettingReg) : (s.observe r).eventRegister = s.eventRegister := rfl
@[simp] theorem observe_pc (s : State) (r : SettingReg) : (s.observe r).pc = s.pc := rfl
@[simp] theorem observe_sp (s : State) (r : SettingReg) : (s.observe r).sp = s.sp := rfl
@[simp] theorem observe_fpca (s : State) (r : SettingReg) : (s.observe r).fpca = s.fpca := rfl
@[simp] theorem observe_frames (s : State) (r : SettingReg) : (s.observe r).frames = s.frames := rfl
@[simp] theorem observe_writeBuffer (s : State) (r : SettingReg) : (s.observe r).writeBuffer = s.writeBuffer := rfl
@[simp] theorem observe_power (s : State) (r : SettingReg) : (s.observe r).power = s.power := rfl
@[simp] theorem observe_lockedUp (s : State) (r : SettingReg) : (s.observe r).lockedUp = s.lockedUp := rfl
@[simp] theorem observe_auxfault (s : State) (r : SettingReg) : (s.observe r).auxfault = s.auxfault := rfl
@[simp] theorem observe_readData (s : State) (r : SettingReg) : (s.observe r).readData = s.readData := rfl
@[simp] theorem observe_destWrite (s : State) (r : SettingReg) : (s.observe r).destWrite = s.destWrite := rfl
@[simp] theorem observe_entryErrors (s : State) (r : SettingReg) : (s.observe r).entryErrors = s.entryErrors := rfl
@[simp] theorem observe_vectorFetch (s : State) (r : SettingReg) : (s.observe r).vectorFetch = s.vectorFetch := rfl
@[simp] theorem observe_drawn (s : State) (r : SettingReg) : (s.observe r).drawn = s.drawn := rfl
@[simp] theorem observe_params (s : State) (r : SettingReg) : (s.observe r).params = s.params := rfl
@[simp] theorem observe_schedule (s : State) (r : SettingReg) : (s.observe r).schedule = s.schedule := rfl

@[simp] theorem bump_drawn (s : State) (k : Nat) : (s.bump k).drawn = s.drawn + k := rfl
@[simp] theorem asSeen_tbloff (s : State) : s.asSeen.tbloff = s.seen.tbloff := rfl
@[simp] theorem asSeen_prigroup (s : State) : s.asSeen.prigroup = s.seen.prigroup := rfl
@[simp] theorem asSeen_scr (s : State) : s.asSeen.scr = s.seen.scr := rfl
@[simp] theorem asSeen_ccr (s : State) : s.asSeen.ccr = s.seen.ccr := rfl
@[simp] theorem asSeen_pri (s : State) : s.asSeen.pri = s.seen.pri := rfl
@[simp] theorem asSeen_ena (s : State) : s.asSeen.ena = s.seen.ena := rfl
@[simp] theorem observe_seen (s : State) (r : SettingReg) : (s.observe r).seen = s.takeUp r s.seen := rfl
@[simp] theorem lockUp_lockedUp (s : State) : s.lockUp.lockedUp = true := rfl

@[simp] theorem stackFrame_actlr (s : State) : (stackFrame s).actlr = s.actlr := rfl
@[simp] theorem stackFrame_tbloff (s : State) : (stackFrame s).tbloff = s.tbloff := rfl
@[simp] theorem stackFrame_prigroup (s : State) : (stackFrame s).prigroup = s.prigroup := rfl
@[simp] theorem stackFrame_scr (s : State) : (stackFrame s).scr = s.scr := rfl
@[simp] theorem stackFrame_ccr (s : State) : (stackFrame s).ccr = s.ccr := rfl
@[simp] theorem stackFrame_pri (s : State) : (stackFrame s).pri = s.pri := rfl
@[simp] theorem stackFrame_ena (s : State) : (stackFrame s).ena = s.ena := rfl
@[simp] theorem stackFrame_cfsr (s : State) : (stackFrame s).cfsr = s.cfsr := rfl
@[simp] theorem stackFrame_hfsr (s : State) : (stackFrame s).hfsr = s.hfsr := rfl
@[simp] theorem stackFrame_mmfar (s : State) : (stackFrame s).mmfar = s.mmfar := rfl
@[simp] theorem stackFrame_bfar (s : State) : (stackFrame s).bfar = s.bfar := rfl
@[simp] theorem stackFrame_afsr (s : State) : (stackFrame s).afsr = s.afsr := rfl
@[simp] theorem stackFrame_sysresetreq (s : State) : (stackFrame s).sysresetreq = s.sysresetreq := rfl
@[simp] theorem stackFrame_seen (s : State) : (stackFrame s).seen = s.seen := rfl
@[simp] theorem stackFrame_pending (s : State) : (stackFrame s).pending = s.pending := rfl
@[simp] theorem stackFrame_active (s : State) : (stackFrame s).active = s.active := rfl
@[simp] theorem stackFrame_ipsr (s : State) : (stackFrame s).ipsr = s.ipsr := rfl
@[simp] theorem stackFrame_nvicEnabled (s : State) : (stackFrame s).nvicEnabled = s.nvicEnabled := rfl
@[simp] theorem stackFrame_nvicPrio (s : State) : (stackFrame s).nvicPrio = s.nvicPrio := rfl
@[simp] theorem stackFrame_primaskHolds (s : State) : (stackFrame s).primaskHolds = s.primaskHolds := rfl
@[simp] theorem stackFrame_maskedHolds (s : State) : (stackFrame s).maskedHolds = s.maskedHolds := rfl
@[simp] theorem stackFrame_maskPriority (s : State) : (stackFrame s).maskPriority = s.maskPriority := rfl
@[simp] theorem stackFrame_eventRegister (s : State) : (stackFrame s).eventRegister = s.eventRegister := rfl
@[simp] theorem stackFrame_pc (s : State) : (stackFrame s).pc = s.pc := rfl
@[simp] theorem stackFrame_fpca (s : State) : (stackFrame s).fpca = s.fpca := rfl
@[simp] theorem stackFrame_writeBuffer (s : State) : (stackFrame s).writeBuffer = s.writeBuffer := rfl
@[simp] theorem stackFrame_power (s : State) : (stackFrame s).power = s.power := rfl
@[simp] theorem stackFrame_lockedUp (s : State) : (stackFrame s).lockedUp = s.lockedUp := rfl
@[simp] theorem stackFrame_auxfault (s : State) : (stackFrame s).auxfault = s.auxfault := rfl
@[simp] theorem stackFrame_readData (s : State) : (stackFrame s).readData = s.readData := rfl
@[simp] theorem stackFrame_destWrite (s : State) : (stackFrame s).destWrite = s.destWrite := rfl
@[simp] theorem stackFrame_entryErrors (s : State) : (stackFrame s).entryErrors = s.entryErrors := rfl
@[simp] theorem stackFrame_vectorFetch (s : State) : (stackFrame s).vectorFetch = s.vectorFetch := rfl
@[simp] theorem stackFrame_params (s : State) : (stackFrame s).params = s.params := rfl
@[simp] theorem stackFrame_schedule (s : State) : (stackFrame s).schedule = s.schedule := rfl

@[simp] theorem fetchVector_actlr (s : State) (n : Nat) : (fetchVector n s).actlr = s.actlr := rfl
@[simp] theorem fetchVector_tbloff (s : State) (n : Nat) : (fetchVector n s).tbloff = s.tbloff := rfl
@[simp] theorem fetchVector_prigroup (s : State) (n : Nat) : (fetchVector n s).prigroup = s.prigroup := rfl
@[simp] theorem fetchVector_scr (s : State) (n : Nat) : (fetchVector n s).scr = s.scr := rfl
@[simp] theorem fetchVector_ccr (s : State) (n : Nat) : (fetchVector n s).ccr = s.ccr := rfl
@[simp] theorem fetchVector_pri (s : State) (n : Nat) : (fetchVector n s).pri = s.pri := rfl
@[simp] theorem fetchVector_ena (s : State) (n : Nat) : (fetchVector n s).ena = s.ena := rfl
@[simp] theorem fetchVector_cfsr (s : State) (n : Nat) : (fetchVector n s).cfsr = s.cfsr := rfl
@[simp] theorem fetchVector_hfsr (s : State) (n : Nat) : (fetchVector n s).hfsr = s.hfsr := rfl
@[simp] theorem fetchVector_mmfar (s : State) (n : Nat) : (fetchVector n s).mmfar = s.mmfar := rfl
@[simp] theorem fetchVector_bfar (s : State) (n : Nat) : (fetchVector n s).bfar = s.bfar := rfl
@[simp] theorem fetchVector_afsr (s : State) (n : Nat) : (fetchVector n s).afsr = s.afsr := rfl
@[simp] theorem fetchVector_sysresetreq (s : State) (n : Nat) : (fetchVector n s).sysresetreq = s.sysresetreq := rfl
@[simp] theorem fetchVector_seen (s : State) (n : Nat) : (fetchVector n s).seen = s.seen := rfl
@[simp] theorem fetchVector_pending (s : State) (n : Nat) : (fetchVector n s).pending = s.pending := rfl
@[simp] theorem fetchVector_active (s : State) (n : Nat) : (fetchVector n s).active = s.active := rfl
@[simp] theorem fetchVector_ipsr (s : State) (n : Nat) : (fetchVector n s).ipsr = s.ipsr := rfl
@[simp] theorem fetchVector_nvicEnabled (s : State) (n : Nat) : (fetchVector n s).nvicEnabled = s.nvicEnabled := rfl
@[simp] theorem fetchVector_nvicPrio (s : State) (n : Nat) : (fetchVector n s).nvicPrio = s.nvicPrio := rfl
@[simp] theorem fetchVector_primaskHolds (s : State) (n : Nat) : (fetchVector n s).primaskHolds = s.primaskHolds := rfl
@[simp] theorem fetchVector_maskedHolds (s : State) (n : Nat) : (fetchVector n s).maskedHolds = s.maskedHolds := rfl
@[simp] theorem fetchVector_maskPriority (s : State) (n : Nat) : (fetchVector n s).maskPriority = s.maskPriority := rfl
@[simp] theorem fetchVector_eventRegister (s : State) (n : Nat) : (fetchVector n s).eventRegister = s.eventRegister := rfl
@[simp] theorem fetchVector_pc (s : State) (n : Nat) : (fetchVector n s).pc = s.pc := rfl
@[simp] theorem fetchVector_sp (s : State) (n : Nat) : (fetchVector n s).sp = s.sp := rfl
@[simp] theorem fetchVector_fpca (s : State) (n : Nat) : (fetchVector n s).fpca = s.fpca := rfl
@[simp] theorem fetchVector_frames (s : State) (n : Nat) : (fetchVector n s).frames = s.frames := rfl
@[simp] theorem fetchVector_writeBuffer (s : State) (n : Nat) : (fetchVector n s).writeBuffer = s.writeBuffer := rfl
@[simp] theorem fetchVector_power (s : State) (n : Nat) : (fetchVector n s).power = s.power := rfl
@[simp] theorem fetchVector_lockedUp (s : State) (n : Nat) : (fetchVector n s).lockedUp = s.lockedUp := rfl
@[simp] theorem fetchVector_auxfault (s : State) (n : Nat) : (fetchVector n s).auxfault = s.auxfault := rfl
@[simp] theorem fetchVector_readData (s : State) (n : Nat) : (fetchVector n s).readData = s.readData := rfl
@[simp] theorem fetchVector_destWrite (s : State) (n : Nat) : (fetchVector n s).destWrite = s.destWrite := rfl
@[simp] theorem fetchVector_entryErrors (s : State) (n : Nat) : (fetchVector n s).entryErrors = s.entryErrors := rfl
@[simp] theorem fetchVector_drawn (s : State) (n : Nat) : (fetchVector n s).drawn = s.drawn := rfl
@[simp] theorem fetchVector_params (s : State) (n : Nat) : (fetchVector n s).params = s.params := rfl
@[simp] theorem fetchVector_schedule (s : State) (n : Nat) : (fetchVector n s).schedule = s.schedule := rfl

@[simp] theorem activate_actlr (s : State) (n : Nat) : (activate n s).actlr = s.actlr := rfl
@[simp] theorem activate_tbloff (s : State) (n : Nat) : (activate n s).tbloff = s.tbloff := rfl
@[simp] theorem activate_prigroup (s : State) (n : Nat) : (activate n s).prigroup = s.prigroup := rfl
@[simp] theorem activate_scr (s : State) (n : Nat) : (activate n s).scr = s.scr := rfl
@[simp] theorem activate_ccr (s : State) (n : Nat) : (activate n s).ccr = s.ccr := rfl
@[simp] theorem activate_pri (s : State) (n : Nat) : (activate n s).pri = s.pri := rfl
@[simp] theorem activate_ena (s : State) (n : Nat) : (activate n s).ena = s.ena := rfl
@[simp] theorem activate_cfsr (s : State) (n : Nat) : (activate n s).cfsr = s.cfsr := rfl
@[simp] theorem activate_hfsr (s : State) (n : Nat) : (activate n s).hfsr = s.hfsr := rfl
@[simp] theorem activate_mmfar (s : State) (n : Nat) : (activate n s).mmfar = s.mmfar := rfl
@[simp] theorem activate_bfar (s : State) (n : Nat) : (activate n s).bfar = s.bfar := rfl
@[simp] theorem activate_afsr (s : State) (n : Nat) : (activate n s).afsr = s.afsr := rfl
@[simp] theorem activate_sysresetreq (s : State) (n : Nat) : (activate n s).sysresetreq = s.sysresetreq := rfl
@[simp] theorem activate_seen (s : State) (n : Nat) : (activate n s).seen = s.seen := rfl
@[simp] theorem activate_nvicEnabled (s : State) (n : Nat) : (activate n s).nvicEnabled = s.nvicEnabled := rfl
@[simp] theorem activate_nvicPrio (s : State) (n : Nat) : (activate n s).nvicPrio = s.nvicPrio := rfl
@[simp] theorem activate_primaskHolds (s : State) (n : Nat) : (activate n s).primaskHolds = s.primaskHolds := rfl
@[simp] theorem activate_maskedHolds (s : State) (n : Nat) : (activate n s).maskedHolds = s.maskedHolds := rfl
@[simp] theorem activate_maskPriority (s : State) (n : Nat) : (activate n s).maskPriority = s.maskPriority := rfl
@[simp] theorem activate_eventRegister (s : State) (n : Nat) : (activate n s).eventRegister = s.eventRegister := rfl
@[simp] theorem activate_sp (s : State) (n : Nat) : (activate n s).sp = s.sp := rfl
@[simp] theorem activate_fpca (s : State) (n : Nat) : (activate n s).fpca = s.fpca := rfl
@[simp] theorem activate_frames (s : State) (n : Nat) : (activate n s).frames = s.frames := rfl
@[simp] theorem activate_writeBuffer (s : State) (n : Nat) : (activate n s).writeBuffer = s.writeBuffer := rfl
@[simp] theorem activate_lockedUp (s : State) (n : Nat) : (activate n s).lockedUp = s.lockedUp := rfl
@[simp] theorem activate_auxfault (s : State) (n : Nat) : (activate n s).auxfault = s.auxfault := rfl
@[simp] theorem activate_readData (s : State) (n : Nat) : (activate n s).readData = s.readData := rfl
@[simp] theorem activate_destWrite (s : State) (n : Nat) : (activate n s).destWrite = s.destWrite := rfl
@[simp] theorem activate_entryErrors (s : State) (n : Nat) : (activate n s).entryErrors = s.entryErrors := rfl
@[simp] theorem activate_params (s : State) (n : Nat) : (activate n s).params = s.params := rfl
@[simp] theorem activate_schedule (s : State) (n : Nat) : (activate n s).schedule = s.schedule := rfl

@[simp] theorem activate_ipsr (s : State) (n : Nat) : (activate n s).ipsr = BitVec.ofNat 9 n := rfl
@[simp] theorem activate_vectorFetch (s : State) (n : Nat) :
    (activate n s).vectorFetch = some { base := vectorTableBase s, sram := vectorTableInSram s, exc := n } := rfl
@[simp] theorem fetchVector_vectorFetch (s : State) (n : Nat) :
    (fetchVector n s).vectorFetch = some { base := vectorTableBase s, sram := vectorTableInSram s, exc := n } := rfl
@[simp] theorem vectorTableBase_stackFrame (s : State) : vectorTableBase (stackFrame s) = vectorTableBase s := rfl
@[simp] theorem activate_power (s : State) (n : Nat) : (activate n s).power = .running := rfl
@[simp] theorem stackFrame_sp (s : State) : (stackFrame s).sp = frameAddr s (Config.frameWords s.drawn) := rfl

end Sys2Proof.Machine
end

