-- ==== Sys2Proof/Laws/Access.lean ====
section
/-! SUPPORT. What the shared operations of an access do, once each: a read, a write, the guard of the reserved positions. -/

namespace Sys2Proof.Machine

/-- A privileged read returns the value and changes nothing else. -/
@[simp] theorem readAccess_privileged (a : Word) (value : State → ReadData) (s : State) :
    readAccess true a value s = .next { s with readData := some (value s) } := rfl

/-- An unprivileged read is the bus fault of its address. -/
@[simp] theorem readAccess_unprivileged (a : Word) (value : State → ReadData) (s : State) :
    readAccess false a value s = unprivilegedAccess true a s := rfl

/-- A privileged write is its register's rule. -/
@[simp] theorem writeAccess_privileged (a : Word) (rule : State → Result) (s : State) :
    writeAccess true a rule s = rule { s with readData := none } := rfl

/-- An unprivileged write is the bus fault of its address. -/
@[simp] theorem writeAccess_unprivileged (a : Word) (rule : State → Result) (s : State) :
    writeAccess false a rule s = unprivilegedAccess false a s := rfl

/-- Without a 1 in a reserved position the rule acts, whatever RESERVED_WRITE says. -/
theorem guardReserved_clear {r v : Word} (h : v &&& r = 0#32) (rule : State → Result) (s : State) :
    guardReserved r v rule s = rule s := by
  unfold guardReserved; split <;> simp [hasBits, h]

/-- A 1 in a reserved position is refused under RESERVED_WRITE = refuse. -/
theorem guardReserved_refuse {r v : Word} (h : v &&& r ≠ 0#32) (rule : State → Result) (s : State)
    (hp : s.params.reservedWrite = .refuse) : guardReserved r v rule s = .refused .reservedBitWritten := by
  simp [guardReserved, hp, hasBits, h]

/-- Under RESERVED_WRITE = ignore the rule acts. -/
theorem guardReserved_ignore {r v : Word} (rule : State → Result) (s : State) (hp : s.params.reservedWrite = .ignore) :
    guardReserved r v rule s = rule s := by
  simp [guardReserved, hp]

/-- Everything the guard can do, for a rule that always performs the write. -/
theorem guardReserved_performs (r v : Word) (f : State → State) (s : State) :
    PerformsUnlessReserved (guardReserved r v (fun t => .next { f t with readData := none }) s) s v r (f s) := by
  refine ⟨fun h => ?_, fun h hp => guardReserved_refuse h _ s hp⟩
  rcases h with h | h
  · exact guardReserved_clear h _ s
  · exact guardReserved_ignore _ s h

/-- If a guarded write has a next state, the rule gave it. -/
theorem guardReserved_next {r v : Word} {rule : State → Result} {s t : State}
    (h : guardReserved r v rule s = .next t) : rule s = .next t := by
  unfold guardReserved at h
  split at h
  · split at h
    · cases h
    · exact h
  · exact h

end Sys2Proof.Machine
end

