-- ==== Sys2Proof/Laws/Decode.lean ====
section
/-! SUPPORT. The bytes of a word and back, the bytes of an access and back. -/

namespace Sys2Proof

/-- The four bytes of a word make the word. -/
@[simp] theorem wordOfBytes_byteOfWord (w : Word) :
    wordOfBytes (byteOfWord w 0) (byteOfWord w 1) (byteOfWord w 2) (byteOfWord w 3) = w := by
  apply BitVec.eq_of_getLsbD_eq
  intro i hi
  simp only [wordOfBytes, byteOfWord, BitVec.getLsbD_append, BitVec.getLsbD_extractLsb']
  rcases i with _|_|_|_|_|_|_|_|_|_|_|_|_|_|_|_|_|_|_|_|_|_|_|_|_|_|_|_|_|_|_|_|i <;> first | rfl | omega

/-- The bytes of the word that four bytes make are those bytes. -/
theorem byteOfWord_wordOfBytes (a b c d : Byte) :
    byteOfWord (wordOfBytes a b c d) 0 = a ∧ byteOfWord (wordOfBytes a b c d) 1 = b ∧
    byteOfWord (wordOfBytes a b c d) 2 = c ∧ byteOfWord (wordOfBytes a b c d) 3 = d := by
  refine ⟨?_, ?_, ?_, ?_⟩ <;>
  · apply BitVec.eq_of_getLsbD_eq
    intro i hi
    simp only [wordOfBytes, byteOfWord, BitVec.getLsbD_append, BitVec.getLsbD_extractLsb']
    rcases i with _|_|_|_|_|_|_|_|i <;> first | rfl | omega

/-- The fields of byte 4 are the privilege, the direction and the size, with 0 above them. -/
theorem descriptorTop_fields (p : Bool) (d : Dir) (sz : Size) (a v : Word) :
    (descriptorTop ⟨p, d, sz, a, v⟩).extractLsb' 4 4 = 0#4 ∧
    sizeOfField ((descriptorTop ⟨p, d, sz, a, v⟩).extractLsb' 0 2) = some sz ∧
    (descriptorTop ⟨p, d, sz, a, v⟩).getLsbD 3 = p ∧
    (if (descriptorTop ⟨p, d, sz, a, v⟩).getLsbD 2 = true then Dir.write else Dir.read) = d := by
  have e : descriptorTop ⟨p, d, sz, a, v⟩ = descriptorTop ⟨p, d, sz, 0#32, 0#32⟩ := rfl
  rw [e]
  cases p <;> cases d <;> cases sz <;> decide

/-- Byte 4 is determined by its fields. -/
theorem descriptorTop_of_fields (t : Byte) (sz : Size) (a v : Word) (h4 : t.extractLsb' 4 4 = 0#4)
    (hs : sizeOfField (t.extractLsb' 0 2) = some sz) :
    descriptorTop ⟨t.getLsbD 3, if t.getLsbD 2 = true then .write else .read, sz, a, v⟩ = t := by
  have e : ∀ d : Dir, descriptorTop ⟨t.getLsbD 3, d, sz, a, v⟩ = descriptorTop ⟨t.getLsbD 3, d, sz, 0#32, 0#32⟩ := fun _ => rfl
  rw [e]
  clear e
  revert h4 hs
  cases sz <;> revert t <;> decide +kernel

/-- Decoding the bytes of an access gives the access. -/
@[simp] theorem decodeAccess_encodeAccess (a : Access) : decodeAccess (encodeAccess a) = .ok a := by
  obtain ⟨p, d, sz, ad, v⟩ := a
  obtain ⟨h1, h2, h3, h4⟩ := descriptorTop_fields p d sz ad v
  simp only [encodeAccess, decodeAccess, wordOfBytes_byteOfWord, h1, h2, h3, h4, ne_eq, not_true_eq_false, if_false]

/-- Bytes that decode to an access are its bytes. -/
theorem encodeAccess_decodeAccess {bytes : List Byte} {a : Access} (h : decodeAccess bytes = .ok a) : encodeAccess a = bytes := by
  unfold decodeAccess at h
  split at h
  next a0 a1 a2 a3 t d0 d1 d2 d3 =>
    split at h
    · cases h
    next h4 =>
      split at h
      · cases h
      next sz hs =>
        cases h
        obtain ⟨x0, x1, x2, x3⟩ := byteOfWord_wordOfBytes a0 a1 a2 a3
        obtain ⟨y0, y1, y2, y3⟩ := byteOfWord_wordOfBytes d0 d1 d2 d3
        simp only [encodeAccess, x0, x1, x2, x3, y0, y1, y2, y3,
          descriptorTop_of_fields t sz _ _ (Decidable.not_not.mp h4) hs]
  next => cases h

end Sys2Proof
end

