-- ==== Sys2Proof/Laws/Exceptions.lean ====
section
/-! SUPPORT. What the exception logic can do, once for each of its operations: every one of them evolves the state (R324), and an entry without
errors enters its handler (R305, R311). -/

namespace Sys2Proof.Machine

/-! ## The relation -/

theorem SameConfig.refl (s : State) : SameConfig s s := ⟨rfl, rfl, rfl, rfl, rfl, rfl, rfl, rfl, rfl⟩

theorem SameConfig.trans {s t u : State} (h : SameConfig s t) (k : SameConfig t u) : SameConfig s u :=
  ⟨k.1.trans h.1, k.2.trans h.2, k.3.trans h.3, k.4.trans h.4, k.5.trans h.5, k.6.trans h.6, k.7.trans h.7, k.8.trans h.8,
    k.9.trans h.9⟩

theorem SameRest.refl (s : State) : SameRest s s := ⟨rfl, rfl, rfl, rfl, rfl, rfl, rfl, rfl, rfl, rfl, rfl, rfl, rfl⟩

theorem SameRest.trans {s t u : State} (h : SameRest s t) (k : SameRest t u) : SameRest s u :=
  ⟨k.1.trans h.1, k.2.trans h.2, k.3.trans h.3, k.4.trans h.4, k.5.trans h.5, k.6.trans h.6, k.7.trans h.7, k.8.trans h.8,
    k.9.trans h.9, k.10.trans h.10, k.11.trans h.11, k.12.trans h.12, k.13.trans h.13⟩

/-- Setting a cause's flag sets that flag and no other cause's. -/
@[simp] theorem cfsrHas_cfsrSet (c d : Cause) (f : Cfsr) : cfsrHas (cfsrSet c f) d = (cfsrHas f d || decide (c = d)) := by
  cases c <;> cases d <;> simp [cfsrHas, cfsrSet]

@[simp] theorem cfsrSet_bfarvalid (c : Cause) (f : Cfsr) : (cfsrSet c f).bfarvalid = f.bfarvalid := by cases c <;> rfl
@[simp] theorem cfsrSet_mmarvalid (c : Cause) (f : Cfsr) : (cfsrSet c f).mmarvalid = f.mmarvalid := by cases c <;> rfl

theorem Evolves.refl (s : State) : Evolves s s where
  config := .refl s
  rest := .refl s
  flags _ h := h
  debugVt := rfl
  forced h := h
  vecttbl h := h
  pending _ h := .inl h
  active _ h := .inl h
  bfar := .inl rfl
  bfarvalid h := .inl h
  mmfar := .inl rfl
  mmarvalid h := .inl h

theorem Evolves.trans {s t u : State} (h : Evolves s t) (k : Evolves t u) : Evolves s u where
  config := h.config.trans k.config
  rest := h.rest.trans k.rest
  flags c hc := k.flags c (h.flags c hc)
  debugVt := k.debugVt.trans h.debugVt
  forced hf := k.forced (h.forced hf)
  vecttbl hf := k.vecttbl (h.vecttbl hf)
  pending n hn := (k.pending n hn).elim (h.pending n) .inr
  active n hn := by
    rcases k.active n hn with a | p | f
    · exact h.active n a
    · exact .inr (h.pending n p)
    · exact .inr (.inr f)
  bfar := by
    have hp := k.flags .preciserr
    have hl := k.flags .lsperr
    have hv := k.bfarvalid
    simp only [cfsrHas] at hp hl
    rcases k.bfar with e | x
    · rcases h.bfar with e' | v | p | l
      · exact .inl (e.trans e')
      · cases hb : u.cfsr.bfarvalid with
        | false => exact .inr (.inl rfl)
        | true => exact .inr (.inr ((hv hb).elim (fun q => by simp [v] at q) id))
      · exact .inr (.inr (.inl (hp p)))
      · exact .inr (.inr (.inr (hl l)))
    · exact .inr x
  bfarvalid hb := by
    have hp := k.flags .preciserr
    have hl := k.flags .lsperr
    simp only [cfsrHas] at hp hl
    rcases k.bfarvalid hb with v | x
    · rcases h.bfarvalid v with v' | p | l
      · exact .inl v'
      · exact .inr (.inl (hp p))
      · exact .inr (.inr (hl l))
    · exact .inr x
  mmfar := by
    have hp := k.flags .daccviol
    have hl := k.flags .mlsperr
    have hv := k.mmarvalid
    simp only [cfsrHas] at hp hl
    rcases k.mmfar with e | x
    · rcases h.mmfar with e' | v | p | l
      · exact .inl (e.trans e')
      · cases hb : u.cfsr.mmarvalid with
        | false => exact .inr (.inl rfl)
        | true => exact .inr (.inr ((hv hb).elim (fun q => by simp [v] at q) id))
      · exact .inr (.inr (.inl (hp p)))
      · exact .inr (.inr (.inr (hl l)))
    · exact .inr x
  mmarvalid hb := by
    have hp := k.flags .daccviol
    have hl := k.flags .mlsperr
    simp only [cfsrHas] at hp hl
    rcases k.mmarvalid hb with v | x
    · rcases h.mmarvalid v with v' | p | l
      · exact .inl v'
      · exact .inr (.inl (hp p))
      · exact .inr (.inr (hl l))
    · exact .inr x

/-- An update that leaves configuration, status registers and arrays alone evolves the state. -/
theorem Evolves.of_same {s t : State} (hc : SameConfig s t) (hr : SameRest s t) (h1 : t.cfsr = s.cfsr) (h2 : t.hfsr = s.hfsr)
    (h3 : t.bfar = s.bfar) (h4 : t.mmfar = s.mmfar) (hp : ∀ n, t.isPending n = s.isPending n)
    (ha : ∀ n, t.isActive n = true → s.isActive n = true) : Evolves s t where
  config := hc
  rest := hr
  flags c h := by rw [h1]; exact h
  debugVt := by rw [h2]
  forced h := by rw [h2]; exact h
  vecttbl h := by rw [h2]; exact h
  pending n h := .inl (by rw [← hp n]; exact h)
  active n h := .inl (ha n h)
  bfar := .inl h3
  bfarvalid h := .inl (by rw [← h1]; exact h)
  mmfar := .inl h4
  mmarvalid h := .inl (by rw [← h1]; exact h)

/-! ## The steps of an entry -/

theorem evolves_bump (s : State) (k : Nat) : Evolves s (s.bump k) :=
  .of_same ⟨rfl, rfl, rfl, rfl, rfl, rfl, rfl, rfl, rfl⟩ ⟨rfl, rfl, rfl, rfl, rfl, rfl, rfl, rfl, rfl, rfl, rfl, rfl, rfl⟩ rfl rfl rfl rfl (fun _ => rfl) fun _ h => h

theorem evolves_lockUp (s : State) : Evolves s s.lockUp :=
  .of_same ⟨rfl, rfl, rfl, rfl, rfl, rfl, rfl, rfl, rfl⟩ ⟨rfl, rfl, rfl, rfl, rfl, rfl, rfl, rfl, rfl, rfl, rfl, rfl, rfl⟩ rfl rfl rfl rfl (fun _ => rfl) fun _ h => h

theorem evolves_entryErrors (s : State) (es : List EntryErrors) : Evolves s { s with entryErrors := es } :=
  .of_same ⟨rfl, rfl, rfl, rfl, rfl, rfl, rfl, rfl, rfl⟩ ⟨rfl, rfl, rfl, rfl, rfl, rfl, rfl, rfl, rfl, rfl, rfl, rfl, rfl⟩ rfl rfl rfl rfl (fun _ => rfl) fun _ h => h

theorem evolves_destWrite (s : State) (w : Option Word) (k : Nat) : Evolves s { s with destWrite := w, drawn := k } :=
  .of_same ⟨rfl, rfl, rfl, rfl, rfl, rfl, rfl, rfl, rfl⟩ ⟨rfl, rfl, rfl, rfl, rfl, rfl, rfl, rfl, rfl, rfl, rfl, rfl, rfl⟩ rfl rfl rfl rfl (fun _ => rfl) fun _ h => h

theorem evolves_stackFrame (s : State) : Evolves s (stackFrame s) :=
  .of_same ⟨rfl, rfl, rfl, rfl, rfl, rfl, rfl, rfl, rfl⟩ ⟨rfl, rfl, rfl, rfl, rfl, rfl, rfl, rfl, rfl, rfl, rfl, rfl, rfl⟩ rfl rfl rfl rfl (fun _ => rfl) fun _ h => h

theorem evolves_fetchVector (n : Nat) (s : State) : Evolves s (fetchVector n s) :=
  .of_same ⟨rfl, rfl, rfl, rfl, rfl, rfl, rfl, rfl, rfl⟩ ⟨rfl, rfl, rfl, rfl, rfl, rfl, rfl, rfl, rfl, rfl, rfl, rfl, rfl⟩ rfl rfl rfl rfl (fun _ => rfl) fun _ h => h

theorem evolves_pc (s : State) (a : Word) : Evolves s { s with pc := a } :=
  .of_same ⟨rfl, rfl, rfl, rfl, rfl, rfl, rfl, rfl, rfl⟩ ⟨rfl, rfl, rfl, rfl, rfl, rfl, rfl, rfl, rfl, rfl, rfl, rfl, rfl⟩ rfl rfl rfl rfl (fun _ => rfl) fun _ h => h

theorem evolves_spoilFrame (s : State) : Evolves s (spoilFrame s) := by
  unfold spoilFrame
  split
  · exact .refl s
  · exact .of_same ⟨rfl, rfl, rfl, rfl, rfl, rfl, rfl, rfl, rfl⟩ ⟨rfl, rfl, rfl, rfl, rfl, rfl, rfl, rfl, rfl, rfl, rfl, rfl, rfl⟩ rfl rfl rfl rfl (fun _ => rfl) fun _ h => h

/-- Entering the handler of an exception that was pending, or that faults raise. -/
theorem evolves_activate {n : Nat} {s : State} (h : s.isPending n = true ∨ isFaultExc n) : Evolves s (activate n s) where
  config := by constructor <;> simp
  rest := by constructor <;> simp
  flags _ h := by simpa using h
  debugVt := by simp
  forced h := by simpa using h
  vecttbl h := by simpa using h
  pending m hm := by
    rw [isPending_activate] at hm
    split at hm
    · cases hm
    · exact .inl hm
  active m hm := by
    rw [isActive_activate] at hm
    split at hm
    next e => rw [← e.1]; exact .inr h
    next => exact .inl hm
  bfar := .inl (by simp)
  bfarvalid h := .inl (by simpa using h)
  mmfar := .inl (by simp)
  mmarvalid h := .inl (by simpa using h)

theorem evolves_setVecttbl (s : State) : Evolves s { s with hfsr := { s.hfsr with vecttbl := true } } where
  config := ⟨rfl, rfl, rfl, rfl, rfl, rfl, rfl, rfl, rfl⟩
  rest := ⟨rfl, rfl, rfl, rfl, rfl, rfl, rfl, rfl, rfl, rfl, rfl, rfl, rfl⟩
  flags _ h := h
  debugVt := rfl
  forced h := h
  vecttbl _ := rfl
  pending _ h := .inl h
  active _ h := .inl h
  bfar := .inl rfl
  bfarvalid h := .inl h
  mmfar := .inl rfl
  mmarvalid h := .inl h

theorem evolves_setForced (s : State) : Evolves s { s with hfsr := { s.hfsr with forced := true } } where
  config := ⟨rfl, rfl, rfl, rfl, rfl, rfl, rfl, rfl, rfl⟩
  rest := ⟨rfl, rfl, rfl, rfl, rfl, rfl, rfl, rfl, rfl, rfl, rfl, rfl, rfl⟩
  flags _ h := h
  debugVt := rfl
  forced _ := rfl
  vecttbl h := h
  pending _ h := .inl h
  active _ h := .inl h
  bfar := .inl rfl
  bfarvalid h := .inl h
  mmfar := .inl rfl
  mmarvalid h := .inl h

/-- Making one of the exceptions that faults raise pending. -/
theorem evolves_setPending {n : Nat} (h : isFaultExc n) (s : State) : Evolves s (s.setPending n true) where
  config := ⟨rfl, rfl, rfl, rfl, rfl, rfl, rfl, rfl, rfl⟩
  rest := ⟨rfl, rfl, rfl, rfl, rfl, rfl, rfl, rfl, rfl, rfl, rfl, rfl, rfl⟩
  flags _ h := h
  debugVt := rfl
  forced h := h
  vecttbl h := h
  pending m hm := by
    rw [isPending_setPending] at hm
    split at hm
    next e => rw [← e.1]; exact .inr h
    next => exact .inl hm
  active _ h := .inl h
  bfar := .inl rfl
  bfarvalid h := .inl h
  mmfar := .inl rfl
  mmarvalid h := .inl h

/-- Withdrawing a pending state, or ending an active one. -/
theorem evolves_setActive_false (s : State) (n : Nat) : Evolves s (s.setActive n false) :=
  .of_same ⟨rfl, rfl, rfl, rfl, rfl, rfl, rfl, rfl, rfl⟩ ⟨rfl, rfl, rfl, rfl, rfl, rfl, rfl, rfl, rfl, rfl, rfl, rfl, rfl⟩ rfl rfl rfl rfl (fun _ => rfl) fun m h => by
    rw [isActive_setActive] at h
    split at h
    · cases h
    · exact h

theorem isFaultExc_hardFault : isFaultExc excHardFault := .inl rfl

/-- The class of every cause is an exception that faults raise. -/
theorem isFaultExc_causeClass (c : Cause) : isFaultExc (causeClass c) := by
  cases c <;> simp [isFaultExc, causeClass, excMemManage, excBusFault, excUsageFault]

theorem evolves_vectorError (again : Bool) (n : Nat) (s : State) : Evolves s (vectorError again n s) := by
  unfold vectorError
  have h := (evolves_setVecttbl s).trans (evolves_fetchVector n _)
  dsimp only
  split
  · exact h.trans (evolves_lockUp _)
  · split
    · exact h.trans ((evolves_fetchVector _ _).trans (evolves_lockUp _))
    · exact h.trans (evolves_activate (.inr isFaultExc_hardFault))

theorem evolves_activateOrFail (e : EntryErrors) {n : Nat} {s : State} (h : s.isPending n = true ∨ isFaultExc n) :
    Evolves s (activateOrFail e n s) := by
  unfold activateOrFail
  split
  · exact evolves_vectorError _ n s
  · exact evolves_activate h

theorem evolves_stackState (chained : Bool) (errors : List StackError) (s : State) : Evolves s (stackState chained errors s) := by
  unfold stackState
  split
  · exact .refl s
  · split
    · exact evolves_stackFrame s
    · exact (evolves_stackFrame s).trans (evolves_spoilFrame _)

/-- Stacking leaves the pending states. -/
@[simp] theorem isPending_stackState (chained : Bool) (errors : List StackError) (s : State) (m : Nat) :
    (stackState chained errors s).isPending m = s.isPending m := by
  have hsp : ∀ t : State, (spoilFrame t).isPending m = t.isPending m := by
    intro t; unfold spoilFrame; split <;> rfl
  unfold stackState
  split
  · rfl
  · split
    · rfl
    · rw [hsp]; rfl

/-! ## Recording a fault -/

/-- A flag set, with nothing else changed. -/
theorem evolves_cfsrSet (c : Cause) (s : State) : Evolves s { s with cfsr := cfsrSet c s.cfsr } where
  config := ⟨rfl, rfl, rfl, rfl, rfl, rfl, rfl, rfl, rfl⟩
  rest := ⟨rfl, rfl, rfl, rfl, rfl, rfl, rfl, rfl, rfl, rfl, rfl, rfl, rfl⟩
  flags d h := by simp [h]
  debugVt := rfl
  forced h := h
  vecttbl h := h
  pending _ h := .inl h
  active _ h := .inl h
  bfar := .inl rfl
  bfarvalid h := .inl (by simpa using h)
  mmfar := .inl rfl
  mmarvalid h := .inl (by simpa using h)

theorem evolves_crossBfar (s : State) : Evolves s (crossBfar s) := by
  unfold crossBfar
  split
  · exact evolves_bump s 2
  · exact
      { config := ⟨rfl, rfl, rfl, rfl, rfl, rfl, rfl, rfl, rfl⟩, rest := ⟨rfl, rfl, rfl, rfl, rfl, rfl, rfl, rfl, rfl, rfl, rfl, rfl, rfl⟩, 
        flags := fun c h => (by cases c <;> exact h), debugVt := rfl, forced := fun h => h
        vecttbl := fun h => h, pending := fun _ h => .inl h, active := fun _ h => .inl h, bfar := .inr (.inl rfl)
        bfarvalid := fun h => (by cases h), mmfar := .inl rfl, mmarvalid := fun h => .inl h }

theorem evolves_crossMmfar (s : State) : Evolves s (crossMmfar s) := by
  unfold crossMmfar
  split
  · exact evolves_bump s 2
  · exact
      { config := ⟨rfl, rfl, rfl, rfl, rfl, rfl, rfl, rfl, rfl⟩, rest := ⟨rfl, rfl, rfl, rfl, rfl, rfl, rfl, rfl, rfl, rfl, rfl, rfl, rfl⟩, 
        flags := fun c h => (by cases c <;> exact h), debugVt := rfl, forced := fun h => h
        vecttbl := fun h => h, pending := fun _ h => .inl h, active := fun _ h => .inl h, bfar := .inl rfl
        bfarvalid := fun h => .inl h, mmfar := .inr (.inl rfl), mmarvalid := fun h => by cases h }

/-- The causes that record, or may record, an address (R302). -/
def recordsAddr : Cause → Prop
  | .preciserr | .lsperr | .daccviol | .mlsperr => True
  | _ => False

theorem evolves_recordAddr {c : Cause} (hc : recordsAddr c) (a : Word) (s : State) (hs : cfsrHas s.cfsr c = true) :
    Evolves s (recordAddr (causeClass c) a s) := by
  have hB : c = .preciserr ∨ c = .lsperr → Evolves s { s with bfar := a, cfsr := { s.cfsr with bfarvalid := true } } := fun h =>
    { config := ⟨rfl, rfl, rfl, rfl, rfl, rfl, rfl, rfl, rfl⟩, rest := ⟨rfl, rfl, rfl, rfl, rfl, rfl, rfl, rfl, rfl, rfl, rfl, rfl, rfl⟩, 
        flags := fun c h => (by cases c <;> exact h), debugVt := rfl, forced := fun h => h
      vecttbl := fun h => h, pending := fun _ h => .inl h, active := fun _ h => .inl h
      bfar := .inr (.inr (by rcases h with rfl | rfl; exacts [.inl hs, .inr hs]))
      bfarvalid := fun _ => .inr (by rcases h with rfl | rfl; exacts [.inl hs, .inr hs])
      mmfar := .inl rfl, mmarvalid := fun h => .inl h }
  have hM : c = .daccviol ∨ c = .mlsperr → Evolves s { s with mmfar := a, cfsr := { s.cfsr with mmarvalid := true } } := fun h =>
    { config := ⟨rfl, rfl, rfl, rfl, rfl, rfl, rfl, rfl, rfl⟩, rest := ⟨rfl, rfl, rfl, rfl, rfl, rfl, rfl, rfl, rfl, rfl, rfl, rfl, rfl⟩, 
        flags := fun c h => (by cases c <;> exact h), debugVt := rfl, forced := fun h => h
      vecttbl := fun h => h, pending := fun _ h => .inl h, active := fun _ h => .inl h
      bfar := .inl rfl, bfarvalid := fun h => .inl h
      mmfar := .inr (.inr (by rcases h with rfl | rfl; exacts [.inl hs, .inr hs]))
      mmarvalid := fun _ => .inr (by rcases h with rfl | rfl; exacts [.inl hs, .inr hs]) }
  cases c <;> simp only [recordsAddr] at hc
  · exact (hB (.inr rfl)).trans (evolves_crossMmfar _)
  · exact (hB (.inl rfl)).trans (evolves_crossMmfar _)
  · exact (hM (.inr rfl)).trans (evolves_crossBfar _)
  · exact (hM (.inl rfl)).trans (evolves_crossBfar _)

/-- The record of a fault; a cause that has no address is reported with none (R301). -/
theorem evolves_recordFault {c : Cause} {a : FaultAddr} (h : a = .none ∨ recordsAddr c) (s : State) : Evolves s (recordFault c a s) := by
  have h1 := evolves_cfsrSet c s
  have hs : cfsrHas ({ s with cfsr := cfsrSet c s.cfsr } : State).cfsr c = true := by simp
  unfold recordFault
  cases a with
  | none => exact h1
  | known x => exact h1.trans (evolves_recordAddr (h.resolve_left (by simp)) x _ hs)
  | unspecified x =>
    dsimp only
    split
    · exact h1.trans ((evolves_bump _ 1).trans (evolves_recordAddr (h.resolve_left (by simp)) x _ hs))
    · exact h1.trans (evolves_bump _ 1)

/-- After the record the cause's flag is set. -/
theorem recordFault_flag (c : Cause) (a : FaultAddr) (s : State) : cfsrHas (recordFault c a s).cfsr c = true := by
  have hcross : ∀ (n : Nat) (x : Word) (t : State), cfsrHas t.cfsr c = true → cfsrHas (recordAddr n x t).cfsr c = true := by
    intro n x t ht
    unfold recordAddr
    split
    · exact (evolves_crossBfar _).flags c (by cases c <;> exact ht)
    · split
      · exact (evolves_crossMmfar _).flags c (by cases c <;> exact ht)
      · exact ht
  unfold recordFault
  cases a with
  | none => simp
  | known x => exact hcross _ _ _ (by simp)
  | unspecified x =>
    dsimp only
    split
    · exact hcross _ _ _ (by simp)
    · simp

/-! ## Reporting, escalating, entering -/

/-- An entry that evolves the state whenever the exception is pending or one that faults raise. -/
def EntryEvolves (ent : Nat → State → State) : Prop :=
  ∀ n s, s.isPending n = true ∨ isFaultExc n → Evolves s (ent n s)

theorem evolves_escalateWith {ent : Nat → State → State} (he : EntryEvolves ent) (c : Cause) (s : State) :
    Evolves s (escalateWith ent c s) := by
  unfold escalateWith
  split
  · split
    · exact .refl s
    · exact evolves_lockUp s
  · exact (evolves_setForced s).trans
      ((evolves_setPending isFaultExc_hardFault _).trans (he _ _ (.inr isFaultExc_hardFault)))

theorem evolves_reportWith {ent : Nat → State → State} (he : EntryEvolves ent) {c : Cause} {a : FaultAddr}
    (h : a = .none ∨ recordsAddr c) (s : State) : Evolves s (reportWith ent c a s) := by
  unfold reportWith
  split
  · exact .refl s
  · have hr := evolves_recordFault h s
    dsimp only
    split
    · exact hr.trans ((evolves_setPending (isFaultExc_causeClass c) _).trans (he _ _ (.inr (isFaultExc_causeClass c))))
    · exact hr.trans (evolves_escalateWith he c _)

theorem evolves_foldl_report {ent : Nat → State → State} (he : EntryEvolves ent) :
    ∀ (ks : List StackError) (s : State), Evolves s (ks.foldl (fun t k => reportWith ent (stackingCause k) .none t) s)
  | [], s => .refl s
  | _ :: ks, s => (evolves_reportWith he (.inl rfl) s).trans (evolves_foldl_report he ks _)

/-- An entry that meets nothing. -/
theorem enter_nil {fuel : Nat} {chained : Bool} {n : Nat} {s : State} (h : s.entryErrors = []) :
    enter fuel chained n s = activate n (stackState chained [] s) := by
  cases fuel <;> simp [enter, h]

/-- An entry that consumes the first of the errors to come. -/
theorem enter_cons {k : Nat} {chained : Bool} {n : Nat} {s : State} {e : EntryErrors} {rest : List EntryErrors}
    (h : s.entryErrors = e :: rest) :
    enter (k + 1) chained n s =
      (stackingReports chained e.stack).foldl (fun t c => reportWith (enter k false) (stackingCause c) .none t)
        (activateOrFail e n (stackState chained e.stack { s with entryErrors := rest })) := by
  simp [enter, h]

/-- Everything a taken exception can do to the status registers and the arrays (R324). -/
theorem evolves_enter (fuel : Nat) : ∀ (chained : Bool), EntryEvolves (enter fuel chained) := by
  have clean : ∀ chained, EntryEvolves fun n s => activate n (stackState chained [] s) := fun chained n s h =>
    (evolves_stackState chained [] s).trans (evolves_activate (by rw [isPending_stackState]; exact h))
  induction fuel with
  | zero => exact clean
  | succ k ih =>
    intro chained n s h
    cases he : s.entryErrors with
    | nil => rw [enter_nil he]; exact clean chained n s h
    | cons e rest =>
      rw [enter_cons he]
      refine (evolves_entryErrors s rest).trans ((evolves_stackState chained e.stack _).trans ?_)
      exact (evolves_activateOrFail e (by rw [isPending_stackState]; exact h)).trans (evolves_foldl_report (ih false) _ _)

theorem evolves_takeException : EntryEvolves takeException := fun n s h => evolves_enter s.entryErrors.length false n s h

theorem evolves_chainException : EntryEvolves chainException := fun n s h => evolves_enter s.entryErrors.length true n s h

theorem evolves_reportFault {c : Cause} {a : FaultAddr} (h : a = .none ∨ recordsAddr c) (s : State) : Evolves s (reportFault c a s) :=
  evolves_reportWith evolves_takeException h s

theorem evolves_ignoredBusError (a : Word) (s : State) : Evolves s (ignoredBusError a s) := by
  unfold ignoredBusError
  have hr : ∀ t, Evolves t (recordFault .preciserr (.known a) t) := fun t => evolves_recordFault (c := .preciserr) (.inr trivial) t
  split
  · exact .refl s
  · exact hr s
  · split
    · exact (evolves_bump s 1).trans (hr _)
    · exact evolves_bump s 1

theorem evolves_preciseBusError (load : Bool) (a : Word) (s : State) : Evolves s (preciseBusError load a s) := by
  unfold preciseBusError
  split
  · refine (evolves_ignoredBusError a s).trans ?_
    unfold ignoredLoad
    split
    · exact evolves_destWrite _ _ _
    · exact .refl _
  · exact evolves_reportFault (c := .preciserr) (.inr trivial) s

theorem evolves_impreciseBusError (next : Word) (s : State) : Evolves s (impreciseBusError next s) := by
  unfold impreciseBusError
  have hr : Evolves s (recordFault .impreciserr .none s) := evolves_recordFault (.inl rfl) s
  dsimp only
  split
  · exact hr.trans (evolves_setPending (.inr (.inr (.inl rfl))) _)
  · exact hr.trans ((evolves_pc _ next).trans (evolves_escalateWith evolves_takeException _ _))

theorem evolves_dataViolation (size : Size) (a : Word) (s : State) : Evolves s (dataViolation size a s) :=
  (evolves_bump s 1).trans (evolves_reportFault (c := .daccviol) (.inr trivial) _)

theorem evolves_lazyFault {c : Cause} (h : recordsAddr c) (a : Word) (s : State) : Evolves s (eventLazyFault c a s) := by
  unfold eventLazyFault
  refine Evolves.trans (t := { s with pc := Config.drawWord s.drawn, drawn := s.drawn + 1 }) ?_ (evolves_reportFault (.inr h) _)
  exact .of_same ⟨rfl, rfl, rfl, rfl, rfl, rfl, rfl, rfl, rfl⟩ ⟨rfl, rfl, rfl, rfl, rfl, rfl, rfl, rfl, rfl, rfl, rfl, rfl, rfl⟩ rfl rfl rfl rfl
    (fun _ => rfl) fun _ h => h

theorem evolves_exceptionReturn (toThread valid : Bool) (u : Option StackError) (s : State) :
    Evolves s (exceptionReturn toThread valid u s) := by
  unfold exceptionReturn
  split
  · exact evolves_reportFault (.inl rfl) s
  · split
    · have h1 := evolves_setActive_false s s.ipsr.toNat
      dsimp only
      split
      · exact h1.trans (.of_same ⟨rfl, rfl, rfl, rfl, rfl, rfl, rfl, rfl, rfl⟩ ⟨rfl, rfl, rfl, rfl, rfl, rfl, rfl, rfl, rfl, rfl, rfl, rfl, rfl⟩ rfl rfl rfl rfl (fun _ => rfl) fun _ h => h)
      · exact h1.trans (evolves_reportWith evolves_chainException (.inl rfl) _)
    · exact evolves_reportFault (.inl rfl) s

/-- The exception the processor takes may preempt: it is pending, enabled, unmasked and of higher group priority (R309). -/
theorem nextException_mayPreempt {s : State} {n : Nat} (h : nextException s = some n) : mayPreempt s n = true := by
  unfold nextException at h
  split at h
  · cases h
  · split at h
    · cases h; assumption
    · cases h

theorem evolves_eventTakeException (m : Bool) (next : Word) (s : State) : Evolves s (eventTakeException m next s) := by
  unfold eventTakeException
  split
  · exact .refl s
  · split
    · exact .refl s
    next n hn =>
      have hp := nextException_mayPreempt hn
      simp only [mayPreempt, Bool.and_eq_true] at hp
      exact (evolves_pc s next).trans (evolves_takeException n _ (.inl hp.1.1.1))

/-! ## Entries without an error -/

/-- Taking an exception when nothing goes wrong enters its handler (R305, R311). -/
theorem takeException_entered {n : Nat} {s : State} (hn : n < 128) (h : s.entryErrors = []) : Entered n s (takeException n s) := by
  have e : takeException n s = activate n (stackFrame s) := by simp [takeException, h, enter, stackState]
  rw [e]
  exact
    { ipsr := by simp
      active := fun m hm => by
        rw [isActive_activate, isActive_stackFrame]
        by_cases hmn : n = m
        · subst hmn; simp [hn]
        · have : (m == n) = false := by simp; omega
          simp [hmn, this]
      notPending := by simp [hn]
      frame := by rw [activate_frames, activate_sp]; exact ⟨_, rfl, rfl, rfl, rfl⟩
      vector := by simp [vectorTableBase, vectorTableInSram]
      handler := ⟨_, rfl⟩
      running := by simp
      notLockedUp := by simp }

end Sys2Proof.Machine
end

