-- ==== Sys2Proof/Laws/Events.lean ====
section
/-! SUPPORT. What the shared operations of the events can do, once each: the refusals in the block, the trap of an unaligned access, the step of a
stimulus. -/

namespace Sys2Proof.Machine

/-- An access touches the block exactly when one of its bytes is in a register. -/
theorem touchesBlock_eq_true {a : Word} {n : Nat} :
    touchesBlock a n = true ↔ ∃ k, k < n ∧ isListed (a + BitVec.ofNat 32 k) = true := by
  simp [touchesBlock]

/-- An access does not touch the block exactly when no byte of it is in a register. -/
theorem touchesBlock_eq_false {a : Word} {n : Nat} :
    touchesBlock a n = false ↔ OutsideBlock a n := by
  simp [touchesBlock, OutsideBlock]

/-- If an access that is refused in the block has a next state, it does not touch the block, and goes its way. -/
theorem refuseInBlock_next {a : Word} {n : Nat} {why : Refusal} {go : Result} {t : State}
    (h : refuseInBlock a n why go = .next t) : touchesBlock a n = false ∧ go = .next t := by
  unfold refuseInBlock at h
  split at h
  · cases h
  · next hn => exact ⟨by simpa using hn, h⟩

/-- A single access outside the block gives what it does. -/
theorem singleOutsideBlock_outside {size : Size} {a : Word} (done : State) (h : OutsideBlock a size.bytes) :
    singleOutsideBlock size a done = .next done := by
  simp [singleOutsideBlock, refuseInBlock, touchesBlock_eq_false.mpr h]

/-- One that touches the block is refused, by the name that says why. -/
theorem singleOutsideBlock_inside {size : Size} {a : Word} (done : State) {k : Nat} (hk : k < size.bytes)
    (h : isListed (a + BitVec.ofNat 32 k) = true) : singleOutsideBlock size a done = .refused (singleInBlock size a) := by
  simp [singleOutsideBlock, refuseInBlock, touchesBlock_eq_true.mpr ⟨k, hk, h⟩]

/-- If a single access has a next state, it is outside the block. -/
theorem singleOutsideBlock_next {size : Size} {a : Word} {done t : State} (h : singleOutsideBlock size a done = .next t) :
    OutsideBlock a size.bytes ∧ t = done := by
  obtain ⟨h1, h2⟩ := refuseInBlock_next h
  cases h2
  exact ⟨touchesBlock_eq_false.mp h1, rfl⟩

/-- If what the instruction at the PC does has a next state, that instruction is not in the block. -/
theorem refuseAtPc_next {s t : State} {go : Result} (h : refuseAtPc s go = .next t) :
    instructionInBlock s.pc = false ∧ go = .next t := by
  unfold refuseAtPc at h
  split at h
  · cases h
  · next hn => exact ⟨by simpa using hn, h⟩

/-- Outside the block the instruction at the PC does what it does. -/
theorem refuseAtPc_outside {s : State} (go : Result) (h : OutsideBlock s.pc 4) :
    refuseAtPc s go = go := by
  simp [refuseAtPc, instructionInBlock, touchesBlock_eq_false.mpr h]

/-- In the block it is refused. -/
theorem refuseAtPc_inside {s : State} (go : Result) {k : Nat} (hk : k < 4) (h : isListed (s.pc + BitVec.ofNat 32 k) = true) :
    refuseAtPc s go = .refused .fetchFromScb := by
  simp [refuseAtPc, instructionInBlock, touchesBlock_eq_true.mpr ⟨k, hk, h⟩]

/-- An access to ordinary memory traps or is performed. -/
theorem alignedOrTrap_cases (traps : Bool) (size : Size) (a : Word) (done s : State) :
    (a.toNat % size.bytes ≠ 0 ∧ traps = true ∧ alignedOrTrap traps size a done s = reportFault .unaligned .none s) ∨
      ((a.toNat % size.bytes = 0 ∨ traps = false) ∧ alignedOrTrap traps size a done s = done) := by
  unfold alignedOrTrap
  split
  · next h => exact .inl ⟨h.1, h.2, rfl⟩
  · next h => exact .inr ⟨by cases traps <;> simp_all, rfl⟩

/-- An access that changes nothing but for its trap evolves the state. -/
theorem evolves_alignedOrTrap (traps : Bool) (size : Size) (a : Word) (s : State) : Evolves s (alignedOrTrap traps size a s s) := by
  rcases alignedOrTrap_cases traps size a s s with ⟨-, -, h⟩ | ⟨-, h⟩ <;> rw [h]
  · exact evolves_reportFault (.inl rfl) s
  · exact .refl s

/-- If an access has a next state, it is an operation, made by a running processor with an instruction outside the block, and that operation gave it. -/
theorem stepAccess_next {bytes : List Byte} {s t : State} (h : stepAccess bytes s = .next t) :
    s.lockedUp = false ∧ s.power = .running ∧ instructionInBlock s.pc = false ∧ ∃ i, decode bytes = .ok i ∧ exec i s = .next t := by
  unfold stepAccess at h
  split at h
  · cases h
  · split at h
    · cases h
    · obtain ⟨h1, h2⟩ := refuseAtPc_next h
      split at h2
      · cases h2
      · next i hi => exact ⟨by simp_all, by simp_all, h1, i, hi, h2⟩

/-- If an event has a next state, it was a reset, it was lost in lock-up, or it was performed. -/
theorem stepEvent_next {e : Event} {s t : State} (h : stepEvent e s = .next t) :
    (s.lockedUp = true ∧ e = .reset ∧ t = applyReset s) ∨ (s.lockedUp = true ∧ isCoreInstruction e = false ∧ t = s) ∨
      (s.lockedUp = false ∧ (s.power = .running ∨ isCoreInstruction e = false) ∧
        (kindOf e = .execution → instructionInBlock s.pc = false) ∧ performEvent e s = .next t) := by
  unfold stepEvent at h
  split at h
  · next hl =>
    unfold lockedUpEvent at h
    split at h
    · next he => cases h; exact .inl ⟨hl, he, rfl⟩
    · split at h
      · cases h
      · next hc => cases h; exact .inr (.inl ⟨hl, by simpa using hc, rfl⟩)
  · next hl =>
    split at h
    · cases h
    · next hp =>
      refine .inr (.inr ⟨by simpa using hl, ?_, ?_⟩)
      · by_cases hr : s.power = .running
        · exact .inl hr
        · exact .inr (by simpa [hr] using hp)
      · split at h
        · obtain ⟨h1, h2⟩ := refuseAtPc_next h
          exact ⟨fun _ => h1, h2⟩
        · next hk => exact ⟨fun x => absurd x hk, h⟩

end Sys2Proof.Machine
end

