-- ==== Sys2Proof/Laws/PerInstr.lean ====
section
/-! SUPPORT. A family of statements about every instruction: its access is one that the address map allows (R70, R74, R100). -/

namespace Sys2Proof.Laws.AccessWellFormed

/-- The access of the instruction is well formed. -/
def Statement (i : Instr) : Prop := i.wellFormed = true

/-- A word write of any value at an aligned listed address is well formed. -/
theorem write_word (p : Bool) (a v : Word) (h : (isListed a && (⟨false, .write, .word, a, 0#32⟩ : Access).aligned) = true) :
    (⟨p, .write, .word, a, v⟩ : Access).wellFormed = true := by
  have hv : v.toNat < 4294967296 := v.isLt
  simp only [Access.aligned, Bool.and_eq_true] at h
  simp [Access.wellFormed, Access.aligned, Access.sizeAllowed, Access.dataFits, Access.readCarriesNone, Size.bytes, h.1, hv]
  simpa [Size.bytes] using h.2

/-- A halfword write of any value at an aligned byte-accessible address is well formed. -/
theorem write_half (p : Bool) (a : Word) (v : Half) (h : (isListed a && isByteAccessible a &&
    (⟨false, .write, .half, a, 0#32⟩ : Access).aligned) = true) : (⟨p, .write, .half, a, v.setWidth 32⟩ : Access).wellFormed = true := by
  have hv : v.toNat < 65536 := v.isLt
  simp only [Access.aligned, Bool.and_eq_true] at h
  have hm : v.toNat % 4294967296 = v.toNat := by omega
  simp [Access.wellFormed, Access.aligned, Access.sizeAllowed, Access.dataFits, Access.readCarriesNone, Size.bytes, h.1.1, h.1.2, hv,
    hm]
  simpa [Size.bytes] using h.2

/-- A byte write of any value at a byte-accessible address is well formed. -/
theorem write_byte (p : Bool) (a : Word) (v : Byte) (h : (isListed a && isByteAccessible a) = true) :
    (⟨p, .write, .byte, a, v.setWidth 32⟩ : Access).wellFormed = true := by
  have hv : v.toNat < 256 := v.isLt
  simp only [Bool.and_eq_true] at h
  have hm : v.toNat % 4294967296 = v.toNat := by omega
  simp [Access.wellFormed, Access.aligned, Access.sizeAllowed, Access.dataFits, Access.readCarriesNone, Size.bytes, h.1, h.2, hv, hm,
    Nat.mod_one]

theorem rdActlr (p : Bool) : Statement (.rdActlr p) := by cases p <;> rfl
theorem wrActlr (p : Bool) (v : Word) : Statement (.wrActlr p v) := write_word p _ v (by decide)
theorem rdCpuid (p : Bool) : Statement (.rdCpuid p) := by cases p <;> rfl
theorem wrCpuid (p : Bool) (v : Word) : Statement (.wrCpuid p v) := write_word p _ v (by decide)
theorem rdIcsr (p : Bool) : Statement (.rdIcsr p) := by cases p <;> rfl
theorem wrIcsr (p : Bool) (v : Word) : Statement (.wrIcsr p v) := write_word p _ v (by decide)
theorem rdVtor (p : Bool) : Statement (.rdVtor p) := by cases p <;> rfl
theorem wrVtor (p : Bool) (v : Word) : Statement (.wrVtor p v) := write_word p _ v (by decide)
theorem rdAircr (p : Bool) : Statement (.rdAircr p) := by cases p <;> rfl
theorem wrAircr (p : Bool) (v : Word) : Statement (.wrAircr p v) := write_word p _ v (by decide)
theorem rdScr (p : Bool) : Statement (.rdScr p) := by cases p <;> rfl
theorem wrScr (p : Bool) (v : Word) : Statement (.wrScr p v) := write_word p _ v (by decide)
theorem rdCcr (p : Bool) : Statement (.rdCcr p) := by cases p <;> rfl
theorem wrCcr (p : Bool) (v : Word) : Statement (.wrCcr p v) := write_word p _ v (by decide)
theorem rdShpr1 (p : Bool) : Statement (.rdShpr1 p) := by cases p <;> rfl
theorem wrShpr1 (p : Bool) (v : Word) : Statement (.wrShpr1 p v) := write_word p _ v (by decide)
theorem rdShpr2 (p : Bool) : Statement (.rdShpr2 p) := by cases p <;> rfl
theorem wrShpr2 (p : Bool) (v : Word) : Statement (.wrShpr2 p v) := write_word p _ v (by decide)
theorem rdShpr3 (p : Bool) : Statement (.rdShpr3 p) := by cases p <;> rfl
theorem wrShpr3 (p : Bool) (v : Word) : Statement (.wrShpr3 p v) := write_word p _ v (by decide)
theorem rdShcsr (p : Bool) : Statement (.rdShcsr p) := by cases p <;> rfl
theorem wrShcsr (p : Bool) (v : Word) : Statement (.wrShcsr p v) := write_word p _ v (by decide)
theorem rdCfsr (p : Bool) : Statement (.rdCfsr p) := by cases p <;> rfl
theorem wrCfsr (p : Bool) (v : Word) : Statement (.wrCfsr p v) := write_word p _ v (by decide)
theorem rdHfsr (p : Bool) : Statement (.rdHfsr p) := by cases p <;> rfl
theorem wrHfsr (p : Bool) (v : Word) : Statement (.wrHfsr p v) := write_word p _ v (by decide)
theorem rdMmfar (p : Bool) : Statement (.rdMmfar p) := by cases p <;> rfl
theorem wrMmfar (p : Bool) (v : Word) : Statement (.wrMmfar p v) := write_word p _ v (by decide)
theorem rdBfar (p : Bool) : Statement (.rdBfar p) := by cases p <;> rfl
theorem wrBfar (p : Bool) (v : Word) : Statement (.wrBfar p v) := write_word p _ v (by decide)
theorem rdAfsr (p : Bool) : Statement (.rdAfsr p) := by cases p <;> rfl
theorem wrAfsr (p : Bool) (v : Word) : Statement (.wrAfsr p v) := write_word p _ v (by decide)
theorem rdbPri4 (p : Bool) : Statement (.rdbPri4 p) := by cases p <;> rfl
theorem wrbPri4 (p : Bool) (v : Byte) : Statement (.wrbPri4 p v) := write_byte p _ v (by decide)
theorem rdbPri5 (p : Bool) : Statement (.rdbPri5 p) := by cases p <;> rfl
theorem wrbPri5 (p : Bool) (v : Byte) : Statement (.wrbPri5 p v) := write_byte p _ v (by decide)
theorem rdbPri6 (p : Bool) : Statement (.rdbPri6 p) := by cases p <;> rfl
theorem wrbPri6 (p : Bool) (v : Byte) : Statement (.wrbPri6 p v) := write_byte p _ v (by decide)
theorem rdbShpr1B3 (p : Bool) : Statement (.rdbShpr1B3 p) := by cases p <;> rfl
theorem wrbShpr1B3 (p : Bool) (v : Byte) : Statement (.wrbShpr1B3 p v) := write_byte p _ v (by decide)
theorem rdhShpr1Lo (p : Bool) : Statement (.rdhShpr1Lo p) := by cases p <;> rfl
theorem wrhShpr1Lo (p : Bool) (v : Half) : Statement (.wrhShpr1Lo p v) := write_half p _ v (by decide)
theorem rdhShpr1Hi (p : Bool) : Statement (.rdhShpr1Hi p) := by cases p <;> rfl
theorem wrhShpr1Hi (p : Bool) (v : Half) : Statement (.wrhShpr1Hi p v) := write_half p _ v (by decide)
theorem rdbShpr2B0 (p : Bool) : Statement (.rdbShpr2B0 p) := by cases p <;> rfl
theorem wrbShpr2B0 (p : Bool) (v : Byte) : Statement (.wrbShpr2B0 p v) := write_byte p _ v (by decide)
theorem rdbShpr2B1 (p : Bool) : Statement (.rdbShpr2B1 p) := by cases p <;> rfl
theorem wrbShpr2B1 (p : Bool) (v : Byte) : Statement (.wrbShpr2B1 p v) := write_byte p _ v (by decide)
theorem rdbShpr2B2 (p : Bool) : Statement (.rdbShpr2B2 p) := by cases p <;> rfl
theorem wrbShpr2B2 (p : Bool) (v : Byte) : Statement (.wrbShpr2B2 p v) := write_byte p _ v (by decide)
theorem rdbPri11 (p : Bool) : Statement (.rdbPri11 p) := by cases p <;> rfl
theorem wrbPri11 (p : Bool) (v : Byte) : Statement (.wrbPri11 p v) := write_byte p _ v (by decide)
theorem rdhShpr2Lo (p : Bool) : Statement (.rdhShpr2Lo p) := by cases p <;> rfl
theorem wrhShpr2Lo (p : Bool) (v : Half) : Statement (.wrhShpr2Lo p v) := write_half p _ v (by decide)
theorem rdhShpr2Hi (p : Bool) : Statement (.rdhShpr2Hi p) := by cases p <;> rfl
theorem wrhShpr2Hi (p : Bool) (v : Half) : Statement (.wrhShpr2Hi p v) := write_half p _ v (by decide)
theorem rdbShpr3B0 (p : Bool) : Statement (.rdbShpr3B0 p) := by cases p <;> rfl
theorem wrbShpr3B0 (p : Bool) (v : Byte) : Statement (.wrbShpr3B0 p v) := write_byte p _ v (by decide)
theorem rdbShpr3B1 (p : Bool) : Statement (.rdbShpr3B1 p) := by cases p <;> rfl
theorem wrbShpr3B1 (p : Bool) (v : Byte) : Statement (.wrbShpr3B1 p v) := write_byte p _ v (by decide)
theorem rdbPri14 (p : Bool) : Statement (.rdbPri14 p) := by cases p <;> rfl
theorem wrbPri14 (p : Bool) (v : Byte) : Statement (.wrbPri14 p v) := write_byte p _ v (by decide)
theorem rdbPri15 (p : Bool) : Statement (.rdbPri15 p) := by cases p <;> rfl
theorem wrbPri15 (p : Bool) (v : Byte) : Statement (.wrbPri15 p v) := write_byte p _ v (by decide)
theorem rdhShpr3Lo (p : Bool) : Statement (.rdhShpr3Lo p) := by cases p <;> rfl
theorem wrhShpr3Lo (p : Bool) (v : Half) : Statement (.wrhShpr3Lo p v) := write_half p _ v (by decide)
theorem rdhShpr3Hi (p : Bool) : Statement (.rdhShpr3Hi p) := by cases p <;> rfl
theorem wrhShpr3Hi (p : Bool) (v : Half) : Statement (.wrhShpr3Hi p v) := write_half p _ v (by decide)
theorem rdbMmfsr (p : Bool) : Statement (.rdbMmfsr p) := by cases p <;> rfl
theorem wrbMmfsr (p : Bool) (v : Byte) : Statement (.wrbMmfsr p v) := write_byte p _ v (by decide)
theorem rdbBfsr (p : Bool) : Statement (.rdbBfsr p) := by cases p <;> rfl
theorem wrbBfsr (p : Bool) (v : Byte) : Statement (.wrbBfsr p v) := write_byte p _ v (by decide)
theorem rdbUfsrLo (p : Bool) : Statement (.rdbUfsrLo p) := by cases p <;> rfl
theorem wrbUfsrLo (p : Bool) (v : Byte) : Statement (.wrbUfsrLo p v) := write_byte p _ v (by decide)
theorem rdbUfsrHi (p : Bool) : Statement (.rdbUfsrHi p) := by cases p <;> rfl
theorem wrbUfsrHi (p : Bool) (v : Byte) : Statement (.wrbUfsrHi p v) := write_byte p _ v (by decide)
theorem rdhCfsrLo (p : Bool) : Statement (.rdhCfsrLo p) := by cases p <;> rfl
theorem wrhCfsrLo (p : Bool) (v : Half) : Statement (.wrhCfsrLo p v) := write_half p _ v (by decide)
theorem rdhUfsr (p : Bool) : Statement (.rdhUfsr p) := by cases p <;> rfl
theorem wrhUfsr (p : Bool) (v : Half) : Statement (.wrhUfsr p v) := write_half p _ v (by decide)

end Sys2Proof.Laws.AccessWellFormed
end

