-- ==== Sys2Proof/Laws/Priority.lean ====
section
/-! SUPPORT. Priorities: what `highest` chooses, the order of group priorities, the current priority and the active exceptions. -/

namespace Sys2Proof.Machine

/-- Everything `highest` can do on a rising list: nothing on the empty list; else a member of lowest priority value, the first among equals. -/
theorem highest_spec (p : Nat → Int) : ∀ l : List Nat, l.Pairwise (· < ·) →
    (highest p l = none ↔ l = []) ∧ ∀ m, highest p l = some m → m ∈ l ∧ ∀ n ∈ l, p m < p n ∨ p m = p n ∧ m ≤ n := by
  intro l
  induction l with
  | nil => intro _; simp [highest]
  | cons x xs ih =>
    intro hp
    rw [List.pairwise_cons] at hp
    obtain ⟨i1, i2⟩ := ih hp.2
    unfold highest
    cases h : highest p xs with
    | none =>
      have := i1.mp h
      subst this
      simp
    | some m =>
      obtain ⟨a, b⟩ := i2 m h
      dsimp only
      refine ⟨by split <;> simp, ?_⟩
      intro k hk
      split at hk
      next hc =>
        cases hk
        refine ⟨by simp [a], fun n hn => ?_⟩
        rcases List.mem_cons.mp hn with rfl | hn
        · exact .inl hc
        · exact b n hn
      next hc =>
        cases hk
        refine ⟨by simp, fun n hn => ?_⟩
        rcases List.mem_cons.mp hn with rfl | hn
        · exact .inr ⟨rfl, Nat.le_refl _⟩
        · have := b n hn
          have := hp.1 n hn
          omega

/-- The exception numbers rise. -/
theorem excNumbers_sorted : excNumbers.Pairwise (· < ·) := by
  unfold excNumbers; exact List.pairwise_lt_range'

@[simp] theorem mem_excNumbers (n : Nat) : n ∈ excNumbers ↔ 1 ≤ n ∧ n < 128 := by
  simp only [excNumbers, List.mem_range'_1]

/-- No number from 128 on is pending or active. -/
theorem isPending_of_ge {s : State} {n : Nat} (h : 128 ≤ n) : s.isPending n = false := by simp [State.isPending, h]
theorem isActive_of_ge {s : State} {n : Nat} (h : 128 ≤ n) : s.isActive n = false := by simp [State.isActive, h]

/-- The group value is the priority with its subpriority bits cleared. -/
theorem toNat_groupValue : ∀ (g : BitVec 3) (p : Byte),
    (groupValue p g).toNat = p.toNat / 2 ^ (g.toNat + 1) * 2 ^ (g.toNat + 1) := by decide +kernel

/-- Clearing the subpriority keeps the order. -/
theorem groupValue_mono (g : BitVec 3) {p q : Byte} (h : p.toNat ≤ q.toNat) : (groupValue p g).toNat ≤ (groupValue q g).toNat := by
  rw [toNat_groupValue, toNat_groupValue]
  exact Nat.mul_le_mul_right _ (Nat.div_le_div_right h)

/-- An exception of no lower priority is of no lower group priority, the fixed priorities included. -/
theorem groupLevel_mono {s : State} {m n : Nat} (h : prio s m ≤ prio s n) : groupLevel s m ≤ groupLevel s n := by
  unfold prio at h
  unfold groupLevel
  by_cases m2 : m = excNmi <;> by_cases n2 : n = excNmi <;> by_cases m3 : m = excHardFault <;> by_cases n3 : n = excHardFault <;>
    simp only [m2, n2, m3, n3, if_true, if_false] at h ⊢ <;> first | omega | skip
  simp [excNmi, excHardFault] at *
  exact groupValue_mono s.prigroup h

/-- A running minimum is at most its start and at most every member. -/
theorem foldl_min_le (f : Nat → Int) : ∀ (l : List Nat) (b : Int), l.foldl (fun p n => min p (f n)) b ≤ b ∧
    ∀ m ∈ l, l.foldl (fun p n => min p (f n)) b ≤ f m
  | [], b => by simp
  | x :: xs, b => by
    obtain ⟨h1, h2⟩ := foldl_min_le f xs (min b (f x))
    simp only [List.foldl_cons]
    refine ⟨by omega, fun m hm => ?_⟩
    rcases List.mem_cons.mp hm with rfl | hm
    · omega
    · exact h2 m hm

/-- The current priority is at least as high as that of every active exception. -/
theorem currentPriority_le {s : State} {m : Nat} (h1 : 1 ≤ m) (h2 : m < 128) (h : s.isActive m = true) :
    currentPriority s ≤ groupLevel s.asSeen m := by
  have : activePriority s ≤ groupLevel s.asSeen m := by
    unfold activePriority
    exact (foldl_min_le (groupLevel s.asSeen) _ _).2 m (by simp [h1, h2, h])
  unfold currentPriority
  split <;> omega

/-- At priority −1 or −2 no fault with configurable priority can be taken. -/
theorem canTake_causeClass {s : State} (c : Cause) (h : currentPriority s ≤ -1) : canTake s (causeClass c) = false := by
  have h1 : 0 ≤ groupLevel s.asSeen (causeClass c) := by
    unfold groupLevel; cases c <;> simp [causeClass, excNmi, excHardFault]
  have : ¬ groupLevel s.asSeen (causeClass c) < currentPriority s := by omega
  simp [canTake, this]

end Sys2Proof.Machine
end

