-- ==== Sys2Proof/Laws/Records.lean ====
section
/-! SUPPORT. What an exception entry leaves of a recorded address, and what a reported fault records. -/

namespace Sys2Proof.Machine

/-- The address registers, their VALID bits and the destination of an event are those of `s`. -/
structure SameRecord (s t : State) : Prop where
  bfar : t.bfar = s.bfar
  mmfar : t.mmfar = s.mmfar
  bfarvalid : t.cfsr.bfarvalid = s.cfsr.bfarvalid
  mmarvalid : t.cfsr.mmarvalid = s.cfsr.mmarvalid
  destWrite : t.destWrite = s.destWrite

theorem SameRecord.refl (s : State) : SameRecord s s := ⟨rfl, rfl, rfl, rfl, rfl⟩

theorem SameRecord.trans {s t u : State} (h : SameRecord s t) (k : SameRecord t u) : SameRecord s u :=
  ⟨k.1.trans h.1, k.2.trans h.2, k.3.trans h.3, k.4.trans h.4, k.5.trans h.5⟩

/-- A record without an address keeps the addresses. -/
theorem sameRecord_recordFault_none (c : Cause) (s : State) : SameRecord s (recordFault c .none s) :=
  ⟨rfl, rfl, by simp [recordFault], by simp [recordFault], rfl⟩

/-- Escalating keeps the addresses if the entry does. -/
theorem sameRecord_escalateWith {ent : Nat → State → State} (he : ∀ n s, SameRecord s (ent n s)) (c : Cause) (s : State) :
    SameRecord s (escalateWith ent c s) := by
  unfold escalateWith
  split
  · split
    · exact .refl s
    · exact ⟨rfl, rfl, rfl, rfl, rfl⟩
  · have h := he excHardFault ({ s with hfsr := { s.hfsr with forced := true } }.setPending excHardFault true)
    exact ⟨h.1, h.2, h.3, h.4, h.5⟩

/-- What follows the record of a reported fault keeps the addresses if the entry does. -/
theorem sameRecord_reportWith {ent : Nat → State → State} (he : ∀ n s, SameRecord s (ent n s)) (c : Cause) (a : FaultAddr) (s : State)
    (hl : s.lockedUp = false) : SameRecord (recordFault c a s) (reportWith ent c a s) := by
  unfold reportWith
  rw [if_neg (by simp [hl])]
  dsimp only
  split
  · have h := he (causeClass c) ((recordFault c a s).setPending (causeClass c) true)
    exact ⟨h.1, h.2, h.3, h.4, h.5⟩
  · exact sameRecord_escalateWith he c _

/-- A reported fault without an address keeps the addresses. -/
theorem sameRecord_reportWith_none {ent : Nat → State → State} (he : ∀ n s, SameRecord s (ent n s)) (c : Cause) (s : State) :
    SameRecord s (reportWith ent c .none s) := by
  cases hl : s.lockedUp with
  | true => unfold reportWith; rw [if_pos hl]; exact .refl s
  | false => exact (sameRecord_recordFault_none c s).trans (sameRecord_reportWith he c .none s hl)

theorem sameRecord_foldl {ent : Nat → State → State} (he : ∀ n s, SameRecord s (ent n s)) :
    ∀ (ks : List StackError) (s : State), SameRecord s (ks.foldl (fun t k => reportWith ent (stackingCause k) .none t) s)
  | [], s => .refl s
  | _ :: ks, s => (sameRecord_reportWith_none he _ s).trans (sameRecord_foldl he ks _)

/-- Stacking, whatever goes wrong in it, keeps every recorded address. -/
theorem sameRecord_stackState (chained : Bool) (errors : List StackError) (s : State) : SameRecord s (stackState chained errors s) := by
  have spoil : ∀ t : State, SameRecord t (spoilFrame t) := by
    intro t; unfold spoilFrame; split <;> exact ⟨rfl, rfl, rfl, rfl, rfl⟩
  have stack : SameRecord s (stackFrame s) := ⟨rfl, rfl, rfl, rfl, rfl⟩
  unfold stackState
  split
  · exact .refl s
  · split
    · exact stack
    · exact stack.trans (spoil _)

/-- Entering a handler keeps every recorded address. -/
theorem sameRecord_activate (n : Nat) (s : State) : SameRecord s (activate n s) := by constructor <;> simp

/-- The vector read of an entry, and what follows it, keep every recorded address. -/
theorem sameRecord_activateOrFail (e : EntryErrors) (n : Nat) (s : State) : SameRecord s (activateOrFail e n s) := by
  have failed : SameRecord s (fetchVector n { s with hfsr := { s.hfsr with vecttbl := true } }) := ⟨rfl, rfl, rfl, rfl, rfl⟩
  unfold activateOrFail
  split
  · unfold vectorError
    dsimp only
    split
    · exact failed.trans ⟨rfl, rfl, rfl, rfl, rfl⟩
    · split
      · exact failed.trans ⟨rfl, rfl, rfl, rfl, rfl⟩
      · exact failed.trans (sameRecord_activate _ _)
  · exact sameRecord_activate n s

/-- An entry, whatever goes wrong in it, keeps every recorded address. -/
theorem sameRecord_enter (fuel : Nat) : ∀ (chained : Bool) (n : Nat) (s : State), SameRecord s (enter fuel chained n s) := by
  have clean : ∀ chained n s, SameRecord s (activate n (stackState chained [] s)) := fun chained n s =>
    (sameRecord_stackState chained [] s).trans (sameRecord_activate _ _)
  induction fuel with
  | zero => exact clean
  | succ k ih =>
    intro chained n s
    cases he : s.entryErrors with
    | nil => rw [enter_nil he]; exact clean chained n s
    | cons e rest =>
      rw [enter_cons he]
      have taken : SameRecord s { s with entryErrors := rest } := ⟨rfl, rfl, rfl, rfl, rfl⟩
      exact taken.trans ((sameRecord_stackState chained e.stack _).trans
        ((sameRecord_activateOrFail e n _).trans (sameRecord_foldl (ih false) _ _)))

/-- The effect of a recorded bus fault on the other class leaves BFAR and BFARVALID. -/
theorem crossMmfar_bus (s : State) : (crossMmfar s).bfar = s.bfar ∧ (crossMmfar s).cfsr.bfarvalid = s.cfsr.bfarvalid := by
  unfold crossMmfar; split <;> exact ⟨rfl, rfl⟩

/-- The effect of a recorded memory management fault on the other class leaves MMFAR and MMARVALID. -/
theorem crossBfar_mem (s : State) : (crossBfar s).mmfar = s.mmfar ∧ (crossBfar s).cfsr.mmarvalid = s.cfsr.mmarvalid := by
  unfold crossBfar; split <;> exact ⟨rfl, rfl⟩

/-- A fault of the bus class that records the address `a` leaves it in BFAR, under BFARVALID. -/
theorem recordFault_bus {c : Cause} (h : causeClass c = 5) (a : Word) (s : State) :
    (recordFault c (.known a) s).bfar = a ∧ (recordFault c (.known a) s).cfsr.bfarvalid = true := by
  unfold recordFault recordAddr
  rw [h]
  exact crossMmfar_bus _

/-- A fault of the memory management class that records the address `a` leaves it in MMFAR, under MMARVALID. -/
theorem recordFault_mem {c : Cause} (h : causeClass c = 4) (a : Word) (s : State) :
    (recordFault c (.known a) s).mmfar = a ∧ (recordFault c (.known a) s).cfsr.mmarvalid = true := by
  unfold recordFault recordAddr
  rw [h]
  exact crossBfar_mem _

/-- What a reported fault leaves in the address registers is what its record put there. -/
theorem sameRecord_reportFault (c : Cause) (a : FaultAddr) (s : State) (hl : s.lockedUp = false) :
    SameRecord (recordFault c a s) (reportFault c a s) :=
  sameRecord_reportWith (fun n s => sameRecord_enter s.entryErrors.length false n s) c a s hl

/-- What a record can do to BFAR: nothing, or the register is open under a VALID bit of 0, or a fault of its class put its own address there. -/
theorem recordFault_bfar_cases (c : Cause) (a : FaultAddr) (s : State) :
    (recordFault c a s).bfar = s.bfar ∨ (recordFault c a s).cfsr.bfarvalid = false ∨
      causeClass c = 5 ∧ (a = .known (recordFault c a s).bfar ∨ a = .unspecified (recordFault c a s).bfar) := by
  have addr : ∀ (x : Word) (t : State), (recordAddr (causeClass c) x t).bfar = t.bfar ∨
      (recordAddr (causeClass c) x t).cfsr.bfarvalid = false ∨ causeClass c = 5 ∧ (recordAddr (causeClass c) x t).bfar = x := by
    intro x t
    unfold recordAddr
    split
    · unfold crossBfar; split
      · exact .inl rfl
      · exact .inr (.inl rfl)
    · split
      next h => exact .inr (.inr ⟨h, (crossMmfar_bus _).1⟩)
      next => exact .inl rfl
  unfold recordFault
  cases a with
  | none => exact .inl rfl
  | known x =>
    rcases addr x { s with cfsr := cfsrSet c s.cfsr } with h | h | ⟨h, h'⟩
    · exact .inl h
    · exact .inr (.inl h)
    · exact .inr (.inr ⟨h, .inl (by rw [h'])⟩)
  | unspecified x =>
    dsimp only
    split
    · rcases addr x (({ s with cfsr := cfsrSet c s.cfsr } : State).bump 1) with h | h | ⟨h, h'⟩
      · exact .inl h
      · exact .inr (.inl h)
      · exact .inr (.inr ⟨h, .inr (by rw [h'])⟩)
    · exact .inl rfl

/-- The mirror image for MMFAR. -/
theorem recordFault_mmfar_cases (c : Cause) (a : FaultAddr) (s : State) :
    (recordFault c a s).mmfar = s.mmfar ∨ (recordFault c a s).cfsr.mmarvalid = false ∨
      causeClass c = 4 ∧ (a = .known (recordFault c a s).mmfar ∨ a = .unspecified (recordFault c a s).mmfar) := by
  have addr : ∀ (x : Word) (t : State), (recordAddr (causeClass c) x t).mmfar = t.mmfar ∨
      (recordAddr (causeClass c) x t).cfsr.mmarvalid = false ∨ causeClass c = 4 ∧ (recordAddr (causeClass c) x t).mmfar = x := by
    intro x t
    unfold recordAddr
    split
    next h => exact .inr (.inr ⟨h, (crossBfar_mem _).1⟩)
    next =>
      split
      · unfold crossMmfar; split
        · exact .inl rfl
        · exact .inr (.inl rfl)
      · exact .inl rfl
  unfold recordFault
  cases a with
  | none => exact .inl rfl
  | known x =>
    rcases addr x { s with cfsr := cfsrSet c s.cfsr } with h | h | ⟨h, h'⟩
    · exact .inl h
    · exact .inr (.inl h)
    · exact .inr (.inr ⟨h, .inl (by rw [h'])⟩)
  | unspecified x =>
    dsimp only
    split
    · rcases addr x (({ s with cfsr := cfsrSet c s.cfsr } : State).bump 1) with h | h | ⟨h, h'⟩
      · exact .inl h
      · exact .inr (.inl h)
      · exact .inr (.inr ⟨h, .inr (by rw [h'])⟩)
    · exact .inl rfl

/-- A record changes the flags of CFSR, the address registers and the count of draws, and nothing else. -/
theorem recordFault_frame (c : Cause) (a : FaultAddr) (s : State) :
    ∃ k, recordFault c a s =
      { s with
        cfsr := (recordFault c a s).cfsr
        bfar := (recordFault c a s).bfar
        mmfar := (recordFault c a s).mmfar
        drawn := s.drawn + k } := by
  have addr : ∀ (x : Word) (t : State), ∃ k, recordAddr (causeClass c) x t =
      { t with
        cfsr := (recordAddr (causeClass c) x t).cfsr
        bfar := (recordAddr (causeClass c) x t).bfar
        mmfar := (recordAddr (causeClass c) x t).mmfar
        drawn := t.drawn + k } := by
    intro x t
    unfold recordAddr
    split
    · unfold crossBfar; split <;> exact ⟨2, rfl⟩
    · split
      · unfold crossMmfar; split <;> exact ⟨2, rfl⟩
      · exact ⟨0, rfl⟩
  cases a with
  | none => exact ⟨0, rfl⟩
  | known x =>
    obtain ⟨k, e⟩ := addr x { s with cfsr := cfsrSet c s.cfsr }
    exact ⟨k, e⟩
  | unspecified x =>
    unfold recordFault
    dsimp only
    split
    · obtain ⟨k, e⟩ := addr x (({ s with cfsr := cfsrSet c s.cfsr } : State).bump 1)
      exact ⟨1 + k, e.trans (by simp [State.bump, Nat.add_assoc])⟩
    · exact ⟨1, rfl⟩

/-- An address that is recorded: no cause's flag changes, and the registers are as R302 says. -/
theorem recordAddr_written (c : Cause) (x : Word) (t : State) :
    (∀ d, cfsrHas (recordAddr (causeClass c) x t).cfsr d = cfsrHas t.cfsr d) ∧
      AddressWritten (causeClass c) x t (recordAddr (causeClass c) x t) := by
  unfold recordAddr
  split
  next h =>
    rw [h]
    unfold crossBfar
    split
    · exact ⟨fun d => by cases d <;> rfl, ⟨nofun, fun _ => ⟨rfl, rfl, .inl ⟨rfl, rfl⟩⟩, nofun⟩⟩
    · exact ⟨fun d => by cases d <;> rfl, ⟨nofun, fun _ => ⟨rfl, rfl, .inr rfl⟩, nofun⟩⟩
  next h =>
    split
    next h =>
      rw [h]
      unfold crossMmfar
      split
      · exact ⟨fun d => by cases d <;> rfl, ⟨fun _ => ⟨rfl, rfl, .inl ⟨rfl, rfl⟩⟩, nofun, nofun⟩⟩
      · exact ⟨fun d => by cases d <;> rfl, ⟨fun _ => ⟨rfl, rfl, .inr rfl⟩, nofun, nofun⟩⟩
    next h' => exact ⟨fun _ => rfl, ⟨fun e => absurd e h', fun e => absurd e h, fun _ => ⟨rfl, rfl, rfl, rfl⟩⟩⟩

/-- What a record leaves: the cause's flag, no other flag, and the address, if there is one (R302). -/
theorem recorded_recordFault (c : Cause) (a : FaultAddr) (s : State) : Recorded c a s (recordFault c a s) := by
  have flags : ∀ d, d ≠ c → cfsrHas (cfsrSet c s.cfsr) d = cfsrHas s.cfsr d := fun d h => by simp [Ne.symm h]
  -- the address registers of a state with the flag set are those of `s`
  have written : ∀ (x : Word) {t : State}, t.bfar = s.bfar → t.mmfar = s.mmfar → t.cfsr = cfsrSet c s.cfsr →
      AddressWritten (causeClass c) x s (recordAddr (causeClass c) x t) := by
    intro x t h1 h2 h3
    have w := (recordAddr_written c x t).2
    have v1 : t.cfsr.bfarvalid = s.cfsr.bfarvalid := by simp [h3]
    have v2 : t.cfsr.mmarvalid = s.cfsr.mmarvalid := by simp [h3]
    refine ⟨fun e => ?_, fun e => ?_, fun e => ?_⟩
    · have := w.bus e; rwa [h2, v2] at this
    · have := w.mem e; rwa [h1, v1] at this
    · have := w.usage e; exact ⟨this.1.trans h1, this.2.trans v1, this.3.trans h2, this.4.trans v2⟩
  have kept : ∀ {t : State}, t.bfar = s.bfar → t.mmfar = s.mmfar → t.cfsr = cfsrSet c s.cfsr → AddressesKept s t := by
    intro t h1 h2 h3; exact ⟨h1, by simp [h3], h2, by simp [h3]⟩
  refine ⟨recordFault_flag c a s, fun d h => ?_, ?_⟩
  · unfold recordFault
    cases a with
    | none => exact flags d h
    | known x => exact ((recordAddr_written c x _).1 d).trans (flags d h)
    | unspecified x =>
      dsimp only
      split
      · exact ((recordAddr_written c x _).1 d).trans (flags d h)
      · exact flags d h
  · unfold recordFault
    cases a with
    | none => exact kept rfl rfl rfl
    | known x => exact written x (t := { s with cfsr := cfsrSet c s.cfsr }) rfl rfl rfl
    | unspecified x =>
      dsimp only
      split
      · exact .inr (written x rfl rfl rfl)
      · exact .inl (kept rfl rfl rfl)

/-- A reported fault without an address keeps the addresses. -/
theorem sameRecord_reportFault_none (c : Cause) (s : State) : SameRecord s (reportFault c .none s) :=
  sameRecord_reportWith_none (ent := takeException) (fun n s => sameRecord_enter s.entryErrors.length false n s) c s

/-- An imprecise bus error keeps the addresses. -/
theorem sameRecord_impreciseBusError (next : Word) (s : State) : SameRecord s (impreciseBusError next s) := by
  have r := sameRecord_recordFault_none .impreciserr s
  unfold impreciseBusError
  dsimp only
  split
  · exact r.trans ⟨rfl, rfl, rfl, rfl, rfl⟩
  · have e := sameRecord_escalateWith (ent := takeException) (fun n s => sameRecord_enter s.entryErrors.length false n s) .impreciserr
      { recordFault .impreciserr .none s with pc := next }
    exact r.trans ⟨e.1, e.2, e.3, e.4, e.5⟩

/-- A return from an exception, legal or not, keeps the addresses. -/
theorem sameRecord_exceptionReturn (toThread valid : Bool) (u : Option StackError) (s : State) :
    SameRecord s (exceptionReturn toThread valid u s) := by
  unfold exceptionReturn
  split
  · exact sameRecord_reportFault_none _ s
  · split
    · dsimp only
      split
      · exact ⟨rfl, rfl, rfl, rfl, rfl⟩
      next k =>
        have e := sameRecord_reportWith_none (ent := chainException) (fun n s => sameRecord_enter s.entryErrors.length true n s) (unstackingCause k)
          (s.setActive s.ipsr.toNat false)
        exact ⟨e.1, e.2, e.3, e.4, e.5⟩
    · exact sameRecord_reportFault_none _ s

/-- Outside lock-up a reported fault has set its flag. -/
theorem reportFault_flag {c : Cause} {a : FaultAddr} (s : State) (hl : s.lockedUp = false) :
    cfsrHas (reportFault c a s).cfsr c = true := by
  have h := recordFault_flag c a s
  unfold reportFault reportWith
  rw [if_neg (by simp [hl])]
  dsimp only
  split
  · exact (evolves_takeException _ _ (.inr (isFaultExc_causeClass c))).flags c h
  · exact (evolves_escalateWith evolves_takeException c _).flags c h

end Sys2Proof.Machine
end

