-- ==== Sys2Proof/Tests/Slice0.lean ====
section
/-! SUPPORT. The model's own tests: the smoke tests of WellFormed, the decoding of every row, the worked values of 95_test_vectors.md, and the witnesses
of the statements' hypotheses. Expected values are taken from the spec's rules and vectors, named in the comments. -/

namespace Sys2Proof.Tests

open Sys2Proof Sys2Proof.Machine

-- One kernel evaluation at a time: side by side, their threads' stacks fill the memory.
set_option Elab.async false

/-! ## WellFormed: one ill-formed access for each check -/

theorem test_wellFormed_accepts : (Access.mk true .read .half 0xE000ED2A#32 0#32).wellFormed = true := by decide +kernel
theorem test_wellFormed_refuses_unlisted : (Access.mk true .read .word 0xE000ED30#32 0#32).wellFormed = false := by decide +kernel
theorem test_wellFormed_refuses_unaligned : (Access.mk true .read .half 0xE000ED19#32 0#32).wellFormed = false := by decide +kernel
theorem test_wellFormed_refuses_size : (Access.mk true .read .byte 0xE000ED00#32 0#32).wellFormed = false := by decide +kernel
theorem test_wellFormed_refuses_wide_data : (Access.mk true .write .byte 0xE000ED18#32 0x100#32).wellFormed = false := by decide +kernel
theorem test_wellFormed_refuses_read_data : (Access.mk true .read .word 0xE000ED18#32 1#32).wellFormed = false := by decide +kernel

/-! ## Decoding: every row's descriptor of R101, R110, written out with priv = 1 (bit 35), data zeros -/

theorem test_decode_actlr_cpuid :
    [0xAE000E008, 0xEE000E008, 0xAE000ED00, 0xEE000ED00].map (decodeTableWord 40)
      = [.rdActlr true, .wrActlr true 0#32, .rdCpuid true, .wrCpuid true 0#32].map some := by decide +kernel

theorem test_decode_icsr_vtor_aircr :
    [0xAE000ED04, 0xEE000ED04, 0xAE000ED08, 0xEE000ED08, 0xAE000ED0C, 0xEE000ED0C].map (decodeTableWord 40)
      = [.rdIcsr true, .wrIcsr true 0#32, .rdVtor true, .wrVtor true 0#32, .rdAircr true, .wrAircr true 0#32].map some := by decide +kernel

theorem test_decode_scr_ccr :
    [0xAE000ED10, 0xEE000ED10, 0xAE000ED14, 0xEE000ED14].map (decodeTableWord 40)
      = [.rdScr true, .wrScr true 0#32, .rdCcr true, .wrCcr true 0#32].map some := by decide +kernel

theorem test_decode_shpr_shcsr_words :
    [0xAE000ED18, 0xEE000ED18, 0xAE000ED1C, 0xEE000ED1C, 0xAE000ED20, 0xEE000ED20, 0xAE000ED24, 0xEE000ED24].map (decodeTableWord 40)
      = [.rdShpr1 true, .wrShpr1 true 0#32, .rdShpr2 true, .wrShpr2 true 0#32, .rdShpr3 true, .wrShpr3 true 0#32, .rdShcsr true, .wrShcsr true 0#32].map some := by decide +kernel

theorem test_decode_fault_words :
    [0xAE000ED28, 0xEE000ED28, 0xAE000ED2C, 0xEE000ED2C, 0xAE000ED34, 0xEE000ED34, 0xAE000ED38, 0xEE000ED38, 0xAE000ED3C, 0xEE000ED3C].map (decodeTableWord 40)
      = [.rdCfsr true, .wrCfsr true 0#32, .rdHfsr true, .wrHfsr true 0#32, .rdMmfar true, .wrMmfar true 0#32, .rdBfar true, .wrBfar true 0#32, .rdAfsr true, .wrAfsr true 0#32].map some := by decide +kernel

theorem test_decode_shpr1_lanes :
    [0x8E000ED18, 0xCE000ED18, 0x8E000ED19, 0xCE000ED19, 0x8E000ED1A, 0xCE000ED1A, 0x8E000ED1B, 0xCE000ED1B, 0x9E000ED18, 0xDE000ED18, 0x9E000ED1A, 0xDE000ED1A].map (decodeTableWord 40)
      = [.rdbPri4 true, .wrbPri4 true 0#8, .rdbPri5 true, .wrbPri5 true 0#8, .rdbPri6 true, .wrbPri6 true 0#8, .rdbShpr1B3 true, .wrbShpr1B3 true 0#8, .rdhShpr1Lo true, .wrhShpr1Lo true 0#16, .rdhShpr1Hi true, .wrhShpr1Hi true 0#16].map some := by decide +kernel

theorem test_decode_shpr2_lanes :
    [0x8E000ED1C, 0xCE000ED1C, 0x8E000ED1D, 0xCE000ED1D, 0x8E000ED1E, 0xCE000ED1E, 0x8E000ED1F, 0xCE000ED1F, 0x9E000ED1C, 0xDE000ED1C, 0x9E000ED1E, 0xDE000ED1E].map (decodeTableWord 40)
      = [.rdbShpr2B0 true, .wrbShpr2B0 true 0#8, .rdbShpr2B1 true, .wrbShpr2B1 true 0#8, .rdbShpr2B2 true, .wrbShpr2B2 true 0#8, .rdbPri11 true, .wrbPri11 true 0#8, .rdhShpr2Lo true, .wrhShpr2Lo true 0#16, .rdhShpr2Hi true, .wrhShpr2Hi true 0#16].map some := by decide +kernel

theorem test_decode_shpr3_lanes :
    [0x8E000ED20, 0xCE000ED20, 0x8E000ED21, 0xCE000ED21, 0x8E000ED22, 0xCE000ED22, 0x8E000ED23, 0xCE000ED23, 0x9E000ED20, 0xDE000ED20, 0x9E000ED22, 0xDE000ED22].map (decodeTableWord 40)
      = [.rdbShpr3B0 true, .wrbShpr3B0 true 0#8, .rdbShpr3B1 true, .wrbShpr3B1 true 0#8, .rdbPri14 true, .wrbPri14 true 0#8, .rdbPri15 true, .wrbPri15 true 0#8, .rdhShpr3Lo true, .wrhShpr3Lo true 0#16, .rdhShpr3Hi true, .wrhShpr3Hi true 0#16].map some := by decide +kernel

theorem test_decode_cfsr_lanes :
    [0x8E000ED28, 0xCE000ED28, 0x8E000ED29, 0xCE000ED29, 0x8E000ED2A, 0xCE000ED2A, 0x8E000ED2B, 0xCE000ED2B, 0x9E000ED28, 0xDE000ED28, 0x9E000ED2A, 0xDE000ED2A].map (decodeTableWord 40)
      = [.rdbMmfsr true, .wrbMmfsr true 0#8, .rdbBfsr true, .wrbBfsr true 0#8, .rdbUfsrLo true, .wrbUfsrLo true 0#8, .rdbUfsrHi true, .wrbUfsrHi true 0#8, .rdhCfsrLo true, .wrhCfsrLo true 0#16, .rdhUfsr true, .wrhUfsr true 0#16].map some := by decide +kernel

/-- An unprivileged descriptor, priv = 0 (V2: 0x6E000ED0C with data 0x05FA0004). -/
theorem test_decode_unprivileged_data :
    decode (operationBytes (0x6E000ED0C + 0x05FA0004 * 2 ^ 40)) = .ok (.wrAircr false 0x05FA0004#32) := by decide +kernel

/-- V3, V4, V5, V8: sizes and alignments that the registers do not allow. -/
theorem test_decode_unsupported :
    [0x8E000ED00, 0xAE000ED02, 0xDE000ED19, 0x9E000ED10].map (fun w => decode (operationBytes w))
      = List.replicate 4 (.error .unsupportedAccess) := by decide +kernel

/-- V6, V7: no register at offset 0x30, nor from 0xE000ED40. -/
theorem test_decode_unlisted :
    [0xAE000ED30, 0xAE000ED40].map (fun w => decode (operationBytes w))
      = List.replicate 2 (.error .notScbOperation) := by decide +kernel

theorem test_decode_malformed :
    [0xBE000ED00, 0x12E000ED00, 0xAE000ED00 + 2 ^ 40, 0xCE000ED19 + 2 ^ 48].map (fun w => decode (operationBytes w))
      = [.error .unusedSize, .error .paddingSet, .error .badData, .error .badData] := by decide +kernel

theorem test_decode_wrong_length : decode [0x00#8] = .error .wrongLength := by decide +kernel

theorem test_encode_wrbPri5 :
    encode (.wrbPri5 true 0x5F#8) = [0x19#8, 0xED#8, 0x00#8, 0xE0#8, 0x0C#8, 0x5F#8, 0#8, 0#8, 0#8] := by decide +kernel

/-! ## A small state, and what a step gives -/

/-- The reset state with known values for the unknown registers, all interrupt lines, and the parameters given. -/
def base (mode : Config.CfsrWrite) (rsv : Config.ReservedWrite) : State :=
  { State.reset with
    mmfar := 0#32
    bfar := 0#32
    afsr := 0#32
    pc := 0#32
    sp := 0#32
    params := { numIrq := 112, cfsrWrite := mode, reservedWrite := rsv, ignoredRecords := .none } }

/-- The spec's default parameters. -/
def s0 : State := base .rcW1 .refuse

/-- The next state, if there is one. -/
def nextOf (r : Result) : Option State :=
  match r with
  | .next t => some t
  | _ => none

/-- The refusal, if it is one. -/
def refusalIn (r : Result) : Option Refusal :=
  match r with
  | .refused x => some x
  | _ => none

/-- What an access returns. -/
def reads (i : Instr) (s : State) : Option ReadData := (nextOf (exec i s)).bind (·.readData)

/-- Two operations, one after the other: what the second returns. -/
def thenReads (i j : Instr) (s : State) : Option ReadData := (nextOf (exec i s)).bind (reads j)

/-- The state after one event. -/
def after (e : Event) (s : State) : Option State := nextOf (step { s with schedule := [.event e] })

/-- The same state, with the processor acting on the fields as they are stored. -/
def sync (s : State) : State := { s with seen := ⟨s.tbloff, s.prigroup, s.scr, s.ccr, s.pri, s.ena⟩ }

/-- A step takes the operation where `withFetchWord` puts it. -/
theorem test_step_fetches :
    (nextOf (step (s0.withFetchWord 40 0xAE000ED14))).map (fun t => (t.readData, t.schedule)) = some (some (.word 0x200#32), []) := by
  decide +kernel

/-! ## ACTLR, CPUID (V10 to V17) -/

theorem test_rdActlr_reset : reads (.rdActlr true) s0 = some (.word 0#32) := by decide +kernel
theorem test_wrActlr_all : thenReads (.wrActlr true 0x307#32) (.rdActlr true) s0 = some (.word 0x307#32) := by decide +kernel
theorem test_wrActlr_reserved : refusalIn (exec (.wrActlr true 0x8#32) s0) = some .reservedBitWritten := by decide +kernel
theorem test_wrActlr_reserved_ignored :
    thenReads (.wrActlr true 0x40E#32) (.rdActlr true) (base .rcW1 .ignore) = some (.word 6#32) := by decide +kernel
theorem test_cpuid : thenReads (.wrCpuid true 0xFFFFFFFF#32) (.rdCpuid true) s0 = some (.word 0x410FC241#32) := by decide +kernel

/-! ## ICSR, VTOR, AIRCR (V21 to V56) -/

/-- V23: PendSV and SysTick pending at equal priority: 14 wins. -/
theorem test_icsr_vectpending_tie : (nextOf (exec (.wrIcsr true 0x14000000#32) s0)).map vectPending = some 14#7 := by decide +kernel
/-- V24: PRI_14 = 0x10, PRI_15 = 0: SysTick wins. -/
theorem test_icsr_vectpending_priority :
    (nextOf (exec (.wrIcsr true 0x14000000#32) { s0 with pri := { s0.pri with pri14 := 1#4 } })).map vectPending
      = some 15#7 := by decide +kernel
/-- V28: NMI. -/
theorem test_icsr_nmi : (nextOf (exec (.wrIcsr true 0x80000000#32) s0)).map vectPending = some 2#7 := by decide +kernel
/-- V22. -/
theorem test_icsr_clear :
    (nextOf (exec (.wrIcsr true 0x08000000#32) (s0.setPending 14 true))).map (·.isPending 14) = some false := by decide +kernel
/-- V25, V26. -/
theorem test_icsr_unpredictable :
    [0x18000000#32, 0x06000000#32].map (fun v => refusalIn (exec (.wrIcsr true v) s0))
      = List.replicate 2 (some .unpredictableIcsr) := by decide +kernel
/-- RD.ICSR with NMI pending, in the handler of exception 15: whatever the two unknown bits read. -/
theorem test_rdIcsr :
    icsrValue { ((s0.setPending 2 true).setActive 15 true) with ipsr := 15#9 } &&& 0xF5FFFFFF#32 = 0x8000280F#32 := by
  unfold icsrValue
  cases Config.drawBit _ <;> cases Config.drawBit _ <;> decide +kernel
/-- V29, D4 (bit 24 dropped), U8 (bit 23 refused) under RESERVED_WRITE = ignore. -/
theorem test_icsr_debug_bit :
    [base .rcW1 .refuse, base .rcW1 .ignore].map (fun s => refusalIn (exec (.wrIcsr true 0x10800000#32) s)) = List.replicate 2 (some .reservedBitWritten)
    ∧ (nextOf (exec (.wrIcsr true 0x11000000#32) (base .rcW1 .ignore))).map (·.isPending 14) = some true := by decide +kernel
/-- V31: ones in read-only positions only. -/
theorem test_icsr_readOnly :
    (nextOf (exec (.wrIcsr true 0x0047F9FF#32) s0)).map (fun t => (t.pending, t.ipsr)) = some (s0.pending, 0#9) := by decide +kernel
/-- V37, V38: IRQ 3 at priority 0x40, pending; enabled or not. -/
theorem test_icsr_irq :
    [true, false].map (fun en => (after (.nvic 3 en 4#4) (s0.setPending 19 true)).map fun t => (isrPending t, vectPending t))
      = [some (true, 19#7), some (true, 0#7)] := by decide +kernel
/-- V35, V36: RETTOBASE in a handler. -/
theorem test_icsr_rettobase :
    (retToBase { (s0.setActive 11 true) with ipsr := 11#9 } 0,
      retToBase { ((s0.setActive 11 true).setActive 15 true) with ipsr := 15#9 } 0) = (true, false) := by decide +kernel
theorem test_vtor : thenReads (.wrVtor true 0x08004000#32) (.rdVtor true) s0 = some (.word 0x08004000#32) := by decide +kernel
theorem test_vtor_tbloff : (nextOf (exec (.wrVtor true 0x3FFFFE00#32) s0)).map (·.tbloff) = some 0x1FFFFF#21 := by decide +kernel
theorem test_vtor_reserved : refusalIn (exec (.wrVtor true 0x08004100#32) s0) = some .reservedBitWritten := by decide +kernel
theorem test_aircr_reset : reads (.rdAircr true) s0 = some (.word 0xFA050000#32) := by decide +kernel
/-- V49, V56. -/
theorem test_aircr_key :
    [0x05FA0300#32, 0x05FA8700#32, 0xFA050500#32, 0x00000003#32].map (fun v => thenReads (.wrAircr true v) (.rdAircr true) s0)
      = [0xFA050300#32, 0xFA050700#32, 0xFA050000#32, 0xFA050000#32].map (fun v => some (.word v)) := by decide +kernel
/-- V53. -/
theorem test_aircr_sysresetreq :
    (nextOf (exec (.wrAircr true 0x05FA0004#32) { s0 with prigroup := 3#3 })).map (fun t => (t.sysresetreq, t.prigroup))
      = some (true, 0#3) := by decide +kernel
/-- V54, V55. -/
theorem test_aircr_refused :
    [0x05FA0001#32, 0x05FA0002#32, 0x05FA0800#32].map (fun v => refusalIn (exec (.wrAircr true v) s0))
      = [some .unpredictableAircr, some .unpredictableAircr, some .reservedBitWritten] := by decide +kernel
/-- The table of 95_test_vectors.md for p = 0xB0 under g = 3 to 7. -/
theorem test_priority_split :
    [3#3, 4#3, 5#3, 6#3, 7#3].map (fun g => (groupPrio 0xB0#8 g, subPrio 0xB0#8 g, groupValue 0xB0#8 g))
      = [(11, 0, 0xB0#8), (5, 1, 0xA0#8), (2, 3, 0x80#8), (1, 3, 0x80#8), (0, 11, 0x00#8)] := by decide +kernel

/-! ## SCR, CCR (V60 to V74) -/

theorem test_scr : thenReads (.wrScr true 0x16#32) (.rdScr true) s0 = some (.word 0x16#32) := by decide +kernel
theorem test_scr_reserved : refusalIn (exec (.wrScr true 0x8#32) s0) = some .reservedBitWritten := by decide +kernel
theorem test_ccr_reset : reads (.rdCcr true) s0 = some (.word 0x200#32) := by decide +kernel
theorem test_ccr : thenReads (.wrCcr true 0x31B#32) (.rdCcr true) s0 = some (.word 0x31B#32) := by decide +kernel

/-! ## SHPR1 to SHPR3, SHCSR (V90 to V116) -/

theorem test_shpr1 : thenReads (.wrShpr1 true 0x00FF5F13#32) (.rdShpr1 true) s0 = some (.word 0x00F05010#32) := by decide +kernel
theorem test_shpr2 : thenReads (.wrShpr2 true 0xC7000000#32) (.rdShpr2 true) s0 = some (.word 0xC0000000#32) := by decide +kernel
theorem test_shpr3 : thenReads (.wrShpr3 true 0xFFFF0000#32) (.rdShpr3 true) s0 = some (.word 0xF0F00000#32) := by decide +kernel
/-- V97, V98, V99: SHPR1 = 0x00F00010. -/
def s1 : State := { s0 with pri := { s0.pri with pri4 := 1#4, pri6 := 15#4 } }
theorem test_wrbPri5 : thenReads (.wrbPri5 true 0x5F#8) (.rdShpr1 true) s1 = some (.word 0x00F05010#32) := by decide +kernel
theorem test_shpr1_lanes :
    [Instr.rdbPri4 true, .rdbPri5 true, .rdbPri6 true, .rdbShpr1B3 true, .rdhShpr1Lo true, .rdhShpr1Hi true].map (reads · s1)
      = [some (.byte 0x10#8), some (.byte 0#8), some (.byte 0xF0#8), some (.byte 0#8), some (.half 0x0010#16),
          some (.half 0x00F0#16)] := by decide +kernel
/-- V100, V103, V104, V101, V102. -/
theorem test_shpr1_sub_writes :
    [thenReads (.wrhShpr1Lo true 0xABCD#16) (.rdShpr1 true) s0, thenReads (.wrhShpr1Hi true 0x00E0#16) (.rdShpr1 true) s0,
        thenReads (.wrbShpr1B3 true 0#8) (.rdShpr1 true) s1]
      = [some (.word 0x0000A0C0#32), some (.word 0x00E00000#32), some (.word 0x00F00010#32)] := by decide +kernel
theorem test_shpr_sub_refused :
    [Instr.wrhShpr1Hi true 0x01E0#16, .wrbShpr1B3 true 1#8, .wrbShpr2B1 true 0x10#8, .wrhShpr2Hi true 0x4001#16].map
        (fun i => refusalIn (exec i s0)) = List.replicate 4 (some .reservedBitWritten) := by decide +kernel
/-- V105, V107, V109. -/
theorem test_shpr23_sub_writes :
    [thenReads (.wrbPri11 true 0x80#8) (.rdShpr2 true) s0, thenReads (.wrhShpr2Hi true 0x4000#16) (.rdShpr2 true) s0,
        thenReads (.wrbPri15 true 0xE0#8) (.rdhShpr3Hi true) s0, thenReads (.wrbPri14 true 0xFF#8) (.rdShpr3 true) s0]
      = [some (.word 0x80000000#32), some (.word 0x40000000#32), some (.half 0xE000#16), some (.word 0x00F00000#32)] := by decide +kernel
/-- V111, V114, V112. -/
theorem test_shcsr : thenReads (.wrShcsr true 0x00078000#32) (.rdShcsr true) s0 = some (.word 0x00078000#32) := by decide +kernel
theorem test_shcsr_active : thenReads (.wrShcsr true 0x00020D8B#32) (.rdShcsr true) s0 = some (.word 0x00020D8B#32) := by decide +kernel
theorem test_shcsr_reserved : refusalIn (exec (.wrShcsr true 4#32) s0) = some .reservedBitWritten := by decide +kernel

/-! ## Fault status and address registers (V130 to V164) -/

/-- CFSR = 0x02008200, in the two modes. -/
def sf (mode : Config.CfsrWrite) : State := { base mode .refuse with cfsr := cfsrOfWord 0x02008200#32 }
theorem test_cfsr_lanes :
    [Instr.rdbMmfsr true, .rdbBfsr true, .rdbUfsrLo true, .rdbUfsrHi true, .rdhCfsrLo true, .rdhUfsr true].map (reads · (sf .rw))
      = [some (.byte 0#8), some (.byte 0x82#8), some (.byte 0#8), some (.byte 2#8), some (.half 0x8200#16),
          some (.half 0x0200#16)] := by decide +kernel
/-- V132, V133, V135, V136, V137. -/
theorem test_cfsr_writes_rcW1 :
    [Instr.wrCfsr true 0x8200#32, .wrCfsr true 0#32, .wrbBfsr true 0x82#8, .wrbBfsr true 0#8, .wrhUfsr true 0x200#16].map
        (fun i => thenReads i (.rdCfsr true) (sf .rcW1))
      = [0x02000000#32, 0x02008200#32, 0x02000000#32, 0x02008200#32, 0x00008200#32].map (fun v => some (.word v)) := by decide +kernel
theorem test_cfsr_writes_rw :
    [Instr.wrCfsr true 0x8200#32, .wrCfsr true 0#32, .wrbBfsr true 0x82#8, .wrbBfsr true 0#8, .wrhUfsr true 0x200#16].map
        (fun i => thenReads i (.rdCfsr true) (sf .rw))
      = [0x00008200#32, 0#32, 0x02008200#32, 0x02000000#32, 0x02008200#32].map (fun v => some (.word v)) := by decide +kernel
/-- V138. -/
theorem test_cfsr_reserved :
    [Instr.wrCfsr true 4#32, .wrCfsr true 0x4000#32, .wrCfsr true 0x04000000#32, .wrbMmfsr true 0x40#8].map
        (fun i => refusalIn (exec i s0)) = List.replicate 4 (some .reservedBitWritten) := by decide +kernel
/-- V152, V153, V154, with HFSR = 0x40000002. -/
theorem test_hfsr :
    [0x40000000#32, 0x40000002#32, 0#32].map (fun v =>
        thenReads (.wrHfsr true v) (.rdHfsr true) { s0 with hfsr := ⟨false, true, true⟩ })
      = [0x00000002#32, 0#32, 0x40000002#32].map (fun v => some (.word v)) := by decide +kernel
/-- V155, V156. -/
theorem test_hfsr_refused :
    [0x80000000#32, 1#32].map (fun v => refusalIn (exec (.wrHfsr true v) s0))
      = [some .unpredictableHfsr, some .reservedBitWritten] := by decide +kernel
theorem test_mmfar : thenReads (.wrMmfar true 0x12345678#32) (.rdMmfar true) s0 = some (.word 0x12345678#32) := by decide +kernel
theorem test_bfar : thenReads (.wrBfar true 0x60000000#32) (.rdBfar true) s0 = some (.word 0x60000000#32) := by decide +kernel
/-- V161, with unknown content; V163. -/
theorem test_afsr :
    thenReads (.wrAfsr true 1#32) (.rdAfsr true) { s0 with afsr := 9#32 } = some (.word 8#32) := by
  simp [thenReads, reads, nextOf, exec, execWrAfsr, writeAccess, writeAfsr, afsrWritten, execRdAfsr, readAccess, afsrValue, s0, base,
    State.reset, State.resetAt]

/-- R263: an input that is HIGH only together with the clearing write leaves its bit to a draw. -/
theorem test_auxfault_race :
    ((nextOf (exec (.wrAfsr true 1#32) { s0 with afsr := 1#32, auxfault := 1#32 })).bind (after (.auxfault 0#32))).map (·.afsr)
      = some (1#32 &&& Config.drawWord 3) := by
  show some ((1#32 &&& ~~~1#32 ||| 1#32 &&& ~~~1#32 ||| 1#32 &&& 1#32 &&& Config.drawWord 3) ||| 0#32) = _
  simp

/-! ## Events (V65 to V85, V118, V119, V141 to V148, V157, V162) -/

/-- CCR = 0x210: divisions by 0 trap. -/
def sd : State := sync { s0 with ccr := { s0.ccr with div0Trp := true }, pc := 0x100#32 }

/-- The same with the three fault handlers enabled as given. -/
def sdEna (e : Enables) : State := sync { sd with ena := e }
/-- V75: no trap, quotient 0. -/
theorem test_divide_untrapped :
    (after .divideByZero s0).map (fun t => (t.destWrite, cfsrValue t, t.ipsr)) = some (some 0#32, 0#32, 0#9) := by decide +kernel
/-- V76: usage fault enabled. -/
theorem test_divide_taken :
    (after .divideByZero (sdEna ⟨true, false, false⟩)).map
        (fun t => (cfsrValue t, t.ipsr, shcsrValue t, t.frames.map (·.pc)))
      = some (0x02000000#32, 6#9, 0x00040008#32, [0x100#32]) := by decide +kernel
/-- V77: disabled, so escalated. -/
theorem test_divide_escalated :
    (after .divideByZero sd).map (fun t => (cfsrValue t, hfsrValue t, t.ipsr, shcsrValue t))
      = some (0x02000000#32, 0x40000000#32, 3#9, 0#32) := by decide +kernel
/-- R81: a write of CCR and of SHCSR that the processor has not taken up changes nothing yet; taken up register by register, it does. -/
theorem test_latency :
    ((nextOf (exec (.wrCcr true 0x210#32) s0)).bind (after .divideByZero)).map (fun t => (ccrValue t, cfsrValue t)) = some (0x210#32, 0#32)
    ∧ (((nextOf (exec (.wrCcr true 0x210#32) s0)).bind (after (.observe .ccr))).bind (after .divideByZero)).map
        (fun t => (cfsrValue t, t.ipsr)) = some (0x02000000#32, 3#9)
    ∧ (((nextOf (exec (.wrShcsr true 0x00040000#32) sd)).bind (after (.observe .shcsr))).bind (after .divideByZero)).map
        (fun t => (cfsrValue t, t.ipsr)) = some (0x02000000#32, 6#9) := by decide +kernel
/-- R157: the vector is read from the table that VTOR names once the processor acts on it; bit 29 is the SRAM region (R86). -/
theorem test_vector_base :
    (((nextOf (exec (.wrVtor true 0x20004000#32) sd)).bind (after (.observe .vtor))).bind (after .divideByZero)).map (·.vectorFetch)
      = some (some ⟨0x20004000#32, true, 3⟩)
    ∧ (after .divideByZero sd).map (·.vectorFetch) = some (some ⟨0#32, false, 3⟩) := by decide +kernel
/-- V78: inside the hard fault handler. -/
theorem test_divide_lockUp :
    (after .divideByZero { (sd.setActive 3 true) with ipsr := 3#9 }).map (fun t => (cfsrValue t, t.lockedUp))
      = some (0x02000000#32, true) := by decide +kernel
/-- V79, V80, V81, the last in both its forms. -/
theorem test_unaligned :
    (after (.dataAccess false .word 0x20000001#32) s0).map cfsrValue = some 0#32
      ∧ (after (.dataAccess true .word 0x20000002#32) s0).map cfsrValue = some 0x01000000#32
      ∧ (after (.multiAccess 0x20000002#32 2) s0).map cfsrValue = some 0x01000000#32
      ∧ (after (.multiAccess 0x20000004#32 2) s0).map cfsrValue = some 0#32 := by decide +kernel
/-- R75, R83, R88, R85, R250: accesses and fetches that touch the block, by their first byte or a later one: STRD at 0xE000E004, LDRD at 0xE000ED30. -/
theorem test_touching_the_block :
    [Event.dataAccess false .half 0xE000ED13#32, .dataAccess false .word 0xE000ED12#32, .dataAccess false .byte 0xE000ED14#32,
        .dataAccess false .word 0xE000ED14#32, .bufferableStore .word 0xE000ED08#32 false, .bufferableStore .half 0xE000ED08#32 true,
        .multiAccess 0xE000E004#32 2, .multiAccess 0xE000ED30#32 2].map (fun e => refusalIn (step { s0 with schedule := [.event e] }))
      = [.unsupportedAccess, .unsupportedAccess, .unsupportedAccess, .accessIsAnOperation, .accessIsAnOperation, .unsupportedAccess,
          .multiAccessToScb, .multiAccessToScb].map some
    ∧ [Event.fetch 0xE000ED32#32 .word, .core 0xE000ECFD#32 0#32, .fetchViolation .word, .issueError .word].map
        (fun e => refusalIn (step { s0 with pc := 0xE000ECFE#32, schedule := [.event e] })) = List.replicate 4 (some .fetchFromScb)
    ∧ (after (.fetchViolation .half) { s0 with pc := 0xE000ECFE#32 }).map cfsrValue = some 1#32
    ∧ (after (.multiAccess 0xE000E004#32 1) s0).isSome = true := by decide +kernel
/-- R75, R79, R102: no bus error and no access violation of an access that touches the block; one that is an operation is performed as its bytes. -/
theorem test_no_access_fault_in_the_block :
    [Event.dataViolation .word 0xE000ED01#32, .busError true .word 0xE000ED01#32, .busError false .byte 0xE000ED14#32, .dataViolation .word 0xE000ED14#32,
        .busError true .word 0xE000ED14#32, .lazyViolation 0xE000ED08#32, .lazyBusError 0xE000ED06#32].map
        (fun e => refusalIn (step { s0 with schedule := [.event e] }))
      = [.unsupportedAccess, .unsupportedAccess, .unsupportedAccess, .accessIsAnOperation, .accessIsAnOperation, .accessIsAnOperation,
          .unsupportedAccess].map some
    ∧ (after (.lazyViolation 0xE000ED40#32) s0).isSome = true := by decide +kernel
/-- R193, R33: a store that may use the write buffer traps too, with the buffer disabled or not, and is not buffered. -/
theorem test_unaligned_bufferable :
    [(true, true, 1#32), (true, false, 2#32), (true, false, 0#32), (false, false, 1#32)].map (fun p =>
        (after (.bufferableStore .word (0x20000000#32 + p.2.2) p.2.1) (sync { s0 with ccr := { s0.ccr with unalignTrp := p.1 } })).map
          (fun t => (cfsrValue t, t.writeBuffer)))
      = [some (0x01000000#32, []), some (0x01000000#32, []), some (0#32, [0x20000000#32]), some (0#32, [0x20000001#32])] := by decide +kernel
/-- R102, R79: an unprivileged access faults in Handler mode as in Thread mode. -/
theorem test_unprivileged_handler :
    ∃ t, step { s0 with ipsr := 15#9, schedule := [.access (encode (.rdCcr false))] } = .next t ∧ t.cfsr.preciserr = true := by
  have h : ¬ (currentPriority { s0 with ipsr := 15#9, readData := none } ≤ -1 ∧ s0.seen.ccr.bfhfnmign = true) := by decide +kernel
  refine ⟨reportFault .preciserr (.known 0xE000ED14#32) { s0 with ipsr := 15#9, readData := none }, ?_, ?_⟩
  · exact (show _ = Host.Outcome.next (preciseBusError true 0xE000ED14#32 { s0 with ipsr := 15#9, readData := none }) from rfl).trans
      (congrArg Host.Outcome.next (if_neg h))
  · exact reportFault_flag (c := .preciserr) _ rfl
/-- R317: all software in Handler mode is privileged, so the STIR takes its write; R194: in Thread mode unprivileged software is turned away. -/
theorem test_stir_handler :
    (after (.stir false 0) { s0 with ipsr := 15#9 }).map (·.isPending 16) = some true
    ∧ refusalIn (step { s0 with schedule := [.event (.stir false 0)] }) = some .stirDenied := by decide +kernel
/-- V118, V119: the record of a precise error; the entry of such a fault, taken or escalated (by a fault that records no address). -/
theorem test_precise_record :
    (recordFault .preciserr (.known 0x60000001#32) s0).bfar = 0x60000001#32
      ∧ (recordFault .preciserr (.known 0x60000001#32) s0).cfsr.bfarvalid = true
      ∧ (recordFault .preciserr (.known 0x60000001#32) s0).cfsr.preciserr = true := by
  exact ⟨(recordFault_bus rfl _ _).1, (recordFault_bus rfl _ _).2, recordFault_flag .preciserr _ _⟩
theorem test_issueError :
    [sync { s0 with ena := ⟨false, true, false⟩ }, s0].map (fun s =>
        (after (.issueError .half) s).map (fun t => (cfsrValue t, hfsrValue t, t.ipsr)))
      = [some (0x100#32, 0#32, 5#9), some (0x100#32, 0x40000000#32, 3#9)] := by decide +kernel
/-- The exception taken is the one of the highest priority; a second of the same group priority does not preempt it. -/
def twoPending : State :=
  sync { ((s0.setPending 14 true).setPending 15 true) with pri := { s0.pri with pri14 := 4#4, pri15 := 5#4 }, prigroup := 0b100#3 }
theorem test_takeException :
    (after (.takeException false 0x300#32) twoPending).map
        (fun t => (t.ipsr, t.isPending 14, t.isActive 14, mayPreempt t 15, t.frames.map (·.pc)))
      = some (14#9, false, true, false, [0x300#32]) := by decide +kernel
/-- R240, R247: each kind of stacking error is reported once, and each report's entry meets what comes next: the usage fault of `sd` with a frame that
cannot be stacked, the bus fault's own vector unreadable, the memory management fault entered without an error. -/
theorem test_nested_entry_errors :
    (after .divideByZero { sdEna ⟨true, true, true⟩ with
        pri := ⟨2#4, 3#4, 4#4, 0#4, 0#4, 0#4⟩
        seen := { (sdEna ⟨true, true, true⟩).seen with pri := ⟨2#4, 3#4, 4#4, 0#4, 0#4, 0#4⟩ }
        entryErrors := [⟨[.bus, .bus], false, false⟩, ⟨[.access], false, false⟩] }).map
        (fun t => (cfsrValue t, t.ipsr, t.frames.length, t.entryErrors))
      = some (0x02001010#32, 4#9, 3, []) := by decide +kernel
/-- R255, R304: the hard fault's own vector cannot be read either. -/
theorem test_vector_error_twice :
    [false, true].map (fun again => (after (.takeException false 0#32) { twoPending with entryErrors := [⟨[], true, again⟩] }).map
        (fun t => (hfsrValue t, t.ipsr, t.lockedUp)))
      = [some (2#32, 3#9, false), some (2#32, 0#9, true)] := by decide +kernel
/-- A handler entered from Thread mode, with its frame: the state that a return starts from. -/
def inHandler (f : Frame) : State := { (s0.setActive 15 true) with ipsr := 15#9, frames := [f], sp := f.addr }
def frame0 : Frame := ⟨0#9, 0x200#32, true, 0x20000000#32, 8#30⟩
theorem test_return :
    (after (.exceptionReturn true true none) (inHandler frame0)).map (fun t => (t.ipsr, t.pc, t.sp, t.frames, t.isActive 15))
      = some (0#9, 0x200#32, 0x20000024#32, [], false) := by decide +kernel
/-- R85: a return whose frame holds an address in the block resumes there, and the instruction there is fetched by nothing: an event and an access. -/
theorem test_return_into_the_block :
    [Stimulus.event .undefinedInstr, .access (encode (.rdCcr true))].map (fun x =>
        (after (.exceptionReturn true true none) (inHandler { frame0 with pc := 0xE000ED00#32 })).map
          (fun t => refusalIn (step { t with schedule := [x] }))) = List.replicate 2 (some (some .fetchFromScb)) := by decide +kernel
/-- The integrity check of the return (R195): the frame stays, INVPC is set and its usage fault escalated. -/
theorem test_return_invpc :
    (after (.exceptionReturn true true none) ((inHandler frame0).setActive 14 true)).map (fun t => (cfsrValue t, t.ipsr))
      = some (0x00040000#32, 3#9) := by decide +kernel
theorem test_sleepOnExit :
    (after (.exceptionReturn true true none) (sync { inHandler frame0 with scr := ⟨false, true, true⟩ })).map (·.power)
      = some (.asleep .onExit true) := by decide +kernel
/-- R184, R195: with an exception still active the processor runs in Thread mode. -/
theorem test_sleepOnExit_nonbase :
    (after (.exceptionReturn true true none) (sync { (inHandler frame0).setActive 14 true with
        scr := ⟨false, true, true⟩, ccr := { s0.ccr with nonbasethrdena := true } })).map (fun t => (t.power, t.ipsr))
      = some (.running, 0#9) := by decide +kernel

/-! ## Witnesses: for every statement with hypotheses, a state and operands that meet them, clause by clause -/

/-- The small state with one stimulus to serve. -/
def ready (x : Stimulus) : State := { s0 with schedule := [x] }

/-- The small state inside the hard fault handler, with CCR.BFHFNMIGN as given. -/
def inHardFault (ign : Bool) : State :=
  sync { (s0.setActive 3 true) with ipsr := 3#9, ccr := { s0.ccr with bfhfnmign := ign }, params := { s0.params with ignoredRecords := .status } }

/-- Parameters under which a reserved 1 is dropped. -/
def ign : State := base .rcW1 .ignore

theorem witness_DecodedBytesAreTheEncoding :
    decode [0x28#8, 0xED#8, 0x00#8, 0xE0#8, 0x0D#8, 0x00#8, 0x82#8, 0x00#8, 0x00#8] = .ok (.wrhCfsrLo true 0x8200#16) := by decide +kernel

theorem witness_TableHoldsExactlyTheAllowedAccesses :
    decodeRow ⟨false, .write, .half, 0xE000ED2A#32, 0xFFFF#32⟩ = .ok (.wrhUfsr false 0xFFFF#16)
      ∧ (Access.mk false .write .half 0xE000ED2A#32 0xFFFF#32).wellFormed = true
      ∧ (Access.mk false .write .half 0xE000ED2A#32 0x10000#32).wellFormed = false := by decide +kernel

theorem witness_StepRefusesAccessesOutsideTheMap :
    (∀ a, (ready (.access (encodeAccess a))).lockedUp = false ∧ (ready (.access (encodeAccess a))).power = .running
      ∧ (ready (.access (encodeAccess a))).schedule = .access (encodeAccess a) :: [])
    ∧ (∀ k, k < 4 → isListed (s0.pc + BitVec.ofNat 32 k) = false)
    ∧ [0xE000E007#32, 0xE000E00C#32, 0xE000ECFF#32, 0xE000ED30#32, 0xE000ED33#32, 0xE000ED40#32].all (fun a => !isListed a) = true
    ∧ [Access.mk true .read .byte 0xE000ED3F#32 0#32, ⟨true, .read, .word, 0xE000ED02#32, 0#32⟩, ⟨true, .read, .half, 0xE000ED19#32, 0#32⟩].all
        (fun a => isListed a.addr && !(a.aligned && a.sizeAllowed)) = true := by
  refine ⟨fun _ => ⟨rfl, rfl, rfl⟩, ?_, ?_, ?_⟩ <;> decide +kernel

theorem witness_StepRunsTheDecodedOperation :
    (ready (.access (encode (.rdCcr true)))).lockedUp = false ∧ (ready (.access (encode (.rdCcr true)))).power = .running
      ∧ (ready (.access (encode (.rdCcr true)))).schedule = .access (encode (.rdCcr true)) :: []
      ∧ decode (encode (.rdCcr true)) = .ok (.rdCcr true) ∧ decode (encode (.rdCcr false)) = .ok (.rdCcr false)
      ∧ (∀ k, k < 4 → isListed (s0.pc + BitVec.ofNat 32 k) = false) ∧ isListed (0xE000ECFD#32 + BitVec.ofNat 32 3) = true :=
  ⟨rfl, rfl, rfl, by decide +kernel, by decide +kernel, by decide +kernel, by decide +kernel⟩

theorem witness_StepPerformsTheEvent :
    ((ready (.event .svc)).lockedUp = false ∧ (ready (.event .svc)).power = .running ∧ (ready (.event .svc)).schedule = .event .svc :: [])
    ∧ (({ ready (.event .nmi) with power := .asleep .wfi false } : State).lockedUp = false ∧ isCoreInstruction .nmi = false)
    ∧ (∀ level, Event.svc ≠ .auxfault level) ∧ isCoreInstruction (.auxfault 1#32) = false ∧ kindOf .svc = .execution
    ∧ kindOf .nmi ≠ .execution ∧ (∀ k, k < 4 → isListed (s0.pc + BitVec.ofNat 32 k) = false) ∧ isListed (0xE000ED3F#32 + BitVec.ofNat 32 0) = true :=
  ⟨⟨rfl, rfl, rfl⟩, ⟨rfl, rfl⟩, (by intro _ h; cases h), rfl, rfl, by decide +kernel, by decide +kernel, by decide +kernel⟩

theorem witness_LockUpIsTerminalUntilReset :
    ∀ x, ({ ready x with lockedUp := true } : State).lockedUp = true ∧ ({ ready x with lockedUp := true } : State).schedule = [x]
      ∧ ({ s0 with lockedUp := true } : State).schedule = [] ∧ Event.nmi ≠ .reset := fun _ => ⟨rfl, rfl, rfl, by decide +kernel⟩

theorem witness_StepKeepsTheInvariant :
    Inv (ready (.event (.irq 111))) ∧ ∃ t, step (ready (.event (.irq 111))) = .next t ∧ t.isPending 127 = true := by
  refine ⟨by decide +kernel, _, rfl, by decide +kernel⟩

theorem witness_PendSvBecomesPendingOnlyThroughIcsr :
    (ready (.access (encode (.wrIcsr true 0x10000000#32)))).isPending 14 = false
      ∧ (nextOf (step (ready (.access (encode (.wrIcsr true 0x10000000#32)))))).map (·.isPending 14) = some true := by decide +kernel

/-- An event that sets one flag, in a state in which others are set. -/
def flagged : State := { ready (.event (.issueError .half)) with cfsr := cfsrOfWord 0x02008282#32, hfsr := ⟨false, true, true⟩ }
theorem witness_EventsNeverClearAStatusBit :
    flagged.schedule = .event (.issueError .half) :: [] ∧ Event.issueError .half ≠ .reset ∧ cfsrHas flagged.cfsr .divbyzero = true
      ∧ flagged.hfsr.forced = true ∧ flagged.hfsr.vecttbl = true ∧ (nextOf (step flagged)).map cfsrValue = some 0x02008382#32 := by
  decide +kernel
theorem witness_EventsLeaveTheConfiguration :
    flagged.schedule = .event (.issueError .half) :: [] ∧ Event.issueError .half ≠ .reset ∧ (nextOf (step flagged)).isSome = true
      ∧ (∀ r, Event.issueError .half ≠ .observe r) := by
  refine ⟨rfl, by decide +kernel, by decide +kernel, by intro r h; cases h⟩

theorem witness_ValidAddressChangesOnlyWithItsOwnFault :
    (∃ t, step (ready (.event (.busError true .word 0x60000000#32))) = .next t ∧ t.cfsr.bfarvalid = true
      ∧ t.bfar ≠ (ready (.event (.busError true .word 0x60000000#32))).bfar) ∧
    (∃ t, step (ready (.event (.dataViolation .word 0x60000000#32))) = .next t ∧ t.cfsr.mmarvalid = true
      ∧ t.mmfar ≠ (ready (.event (.dataViolation .word 0x60000000#32))).mmfar) := by
  refine ⟨⟨reportFault .preciserr (.known 0x60000000#32) s0, ?_, ?_, ?_⟩, reportFault .daccviol (.known 0x60000000#32) (s0.bump 1), ?_, ?_, ?_⟩
  · have h : ¬ (currentPriority s0 ≤ -1 ∧ s0.seen.ccr.bfhfnmign = true) := by decide +kernel
    exact congrArg Host.Outcome.next (if_neg h)
  · exact (sameRecord_reportFault _ _ _ rfl).bfarvalid.trans (recordFault_bus rfl _ _).2
  · rw [(sameRecord_reportFault _ _ _ rfl).bfar, (recordFault_bus rfl _ _).1]; decide
  · rfl
  · exact (sameRecord_reportFault _ _ _ rfl).mmarvalid.trans (recordFault_mem rfl _ _).2
  · rw [(sameRecord_reportFault _ _ _ rfl).mmfar, (recordFault_mem rfl _ _).1]; decide

/-- The write buffer disabled, one store still in it. -/
def noBuffer (x : Stimulus) : State := { ready x with actlr := { s0.actlr with disdefwbuf := true }, writeBuffer := [0x60000000#32] }
theorem witness_NoImpreciseErrorWithTheWriteBufferDisabled :
    (noBuffer (.event (.drain 0 false 0#32))).actlr.disdefwbuf = true
      ∧ (noBuffer (.event (.drain 0 false 0#32))).schedule = .event (.drain 0 false 0#32) :: []
      ∧ (∃ t, step { noBuffer (.event (.drain 0 false 0#32)) with cfsr := { s0.cfsr with impreciserr := true } } = .next t
        ∧ t.cfsr.impreciserr = true)
      ∧ (∀ k, k < Size.word.bytes → isListed (0x60000000#32 + BitVec.ofNat 32 k) = false) ∧ (0x60000000#32).toNat % Size.word.bytes = 0
      ∧ s0.seen.ccr.unalignTrp = false ∧ isListed (0xE000ED05#32 + BitVec.ofNat 32 3) = true :=
  ⟨rfl, rfl, ⟨_, rfl, rfl⟩, by decide +kernel, by decide +kernel, rfl, by decide +kernel⟩

theorem witness_UnprivilegedAccessFaults :
    (Instr.rdCcr false).priv = false ∧ s0.lockedUp = false ∧ -1 < currentPriority s0
      ∧ cfsrHas (sf .rcW1).cfsr .divbyzero = true := by decide +kernel

theorem witness_ReadsChangeNothing :
    (Instr.rdhUfsr true).priv = true ∧ (Instr.rdhUfsr true).access.dir = .read ∧ (Instr.rdIcsr true).access.dir = .read := by decide +kernel

/-- In the handler of exception 15, alone; in Thread mode the third clause does not apply. -/
theorem witness_IcsrReadReturnsTheViews : (inHandler frame0).ipsr ≠ 0#9 ∧ (inHandler frame0).isActive 15 = true := by decide +kernel

/-- Nothing pending; pending but disabled; pending, enabled and not held back, the numbers 1 and 127 at the ends. -/
theorem witness_IcsrPendingViewsAreRight :
    Inv s0 ∧ (∀ n, n < 128 → s0.isPending n = false)
    ∧ Inv ((s0.setPending 1 true).setPending 127 true) ∧ enabled ((s0.setPending 1 true).setPending 127 true) 127 = false
    ∧ enabled ((s0.setPending 1 true).setPending 127 true) 1 = true
    ∧ ((s0.setPending 1 true).setPending 127 true).maskedHolds.contains 1 = false
    ∧ isrPending ((s0.setPending 1 true).setPending 127 true) = true := by decide +kernel

/-- The clauses of the writes: no reserved 1, with every other bit set and with none; a reserved 1 under each value of RESERVED_WRITE. -/
theorem witness_ConfigurationWritesStoreTheFields :
    [(0x307#32, 0xFFFFFCF8#32), (0x3FFFFE00#32, 0xC00001FF#32), (0x16#32, 0xFFFFFFE9#32), (0x31B#32, 0xFFFFFCE4#32), (0#32, 0xFFFFFCE4#32)].all
        (fun p => p.1 &&& p.2 == 0#32) = true
    ∧ 0x8#32 &&& 0xFFFFFCF8#32 ≠ 0#32 ∧ 0x100#32 &&& 0xC00001FF#32 ≠ 0#32 ∧ 1#32 &&& 0xFFFFFFE9#32 ≠ 0#32 ∧ 4#32 &&& 0xFFFFFCE4#32 ≠ 0#32
    ∧ s0.params.reservedWrite = .refuse ∧ ign.params.reservedWrite = .ignore := by decide +kernel

theorem witness_IcsrWriteActsOnThePendingStates :
    [0#32, 0x94000000#32, 0x8A47F9FF#32, 0x18000000#32, 0x06000000#32].all (fun v => v &&& 0x61B80600#32 == 0#32) = true
    ∧ (0x8A47F9FF#32).getLsbD 28 = false ∧ (0x94000000#32).getLsbD 27 = false ∧ (0x94000000#32).getLsbD 25 = false
    ∧ icsrContradicts 0x18000000#32 = true ∧ icsrContradicts 0x06000000#32 = true
    ∧ (0x01000000#32).getLsbD 23 = false ∧ (0x00800000#32).getLsbD 23 = true
    ∧ 0x01000000#32 &&& 0x61B80600#32 ≠ 0#32 ∧ s0.params.reservedWrite = .refuse ∧ ign.params.reservedWrite = .ignore := by decide +kernel

theorem witness_AircrWriteNeedsTheKey :
    (0xFA050304#32).extractLsb' 16 16 ≠ 0x05FA#16 ∧ (0x05FA0704#32).extractLsb' 16 16 = 0x05FA#16 ∧ 0x05FA0704#32 &&& 0x000078F8#32 = 0#32
    ∧ (0x05FA0704#32).getLsbD 1 = false ∧ (0x05FA0704#32).getLsbD 0 = false ∧ (0x05FA0001#32).getLsbD 0 = true
    ∧ (0x05FA0002#32).getLsbD 1 = true ∧ 0x05FA0800#32 &&& 0x000078F8#32 ≠ 0#32 ∧ s0.params.reservedWrite = .refuse
    ∧ ign.params.reservedWrite = .ignore := by decide +kernel

theorem witness_PriorityWritesStoreTheUpperNibbles :
    [(0x00FFFFFF#32, 0xFF000000#32), (0xFF000000#32, 0x00FFFFFF#32), (0xFFFF0000#32, 0x0000FFFF#32), (0#32, 0xFF000000#32)].all
        (fun p => p.1 &&& p.2 == 0#32) = true
    ∧ 0x01000000#32 &&& 0xFF000000#32 ≠ 0#32 ∧ 1#32 &&& 0x00FFFFFF#32 ≠ 0#32 ∧ 0x8000#32 &&& 0x0000FFFF#32 ≠ 0#32
    ∧ s0.params.reservedWrite = .refuse ∧ ign.params.reservedWrite = .ignore := by decide +kernel

theorem witness_PriorityLaneWritesStoreTheirFields :
    (0#8).setWidth 32 &&& 0xFF#32 = 0#32 ∧ (1#8).setWidth 32 &&& 0xFF#32 ≠ 0#32
    ∧ (0x00FF#16).setWidth 32 &&& 0xFF00#32 = 0#32 ∧ (0x0100#16).setWidth 32 &&& 0xFF00#32 ≠ 0#32
    ∧ (0xFF00#16).setWidth 32 &&& 0x00FF#32 = 0#32 ∧ (0x0080#16).setWidth 32 &&& 0x00FF#32 ≠ 0#32
    ∧ (0#16).setWidth 32 &&& 0xFFFF#32 = 0#32 ∧ (1#16).setWidth 32 &&& 0xFFFF#32 ≠ 0#32
    ∧ s0.params.reservedWrite = .refuse ∧ ign.params.reservedWrite = .ignore := by decide +kernel

theorem witness_ShcsrWriteAssignsEveryBit :
    0x0007FD8B#32 &&& 0xFFF80274#32 = 0#32 ∧ 0#32 &&& 0xFFF80274#32 = 0#32 ∧ 4#32 &&& 0xFFF80274#32 ≠ 0#32
    ∧ s0.params.reservedWrite = .refuse ∧ ign.params.reservedWrite = .ignore := by decide +kernel

theorem witness_CfsrWritesActOnTheirLane :
    0x030FBFBB#32 &&& 0xFCF04044#32 = 0#32 ∧ 4#32 &&& 0xFCF04044#32 ≠ 0#32 ∧ (0xBB#8).setWidth 32 &&& 0x44#32 = 0#32
    ∧ (4#8).setWidth 32 &&& 0x44#32 ≠ 0#32 ∧ (0xBF#8).setWidth 32 &&& 0x40#32 = 0#32 ∧ (0x40#8).setWidth 32 &&& 0x40#32 ≠ 0#32
    ∧ (0x0F#8).setWidth 32 &&& 0xF0#32 = 0#32 ∧ (0x10#8).setWidth 32 &&& 0xF0#32 ≠ 0#32 ∧ (3#8).setWidth 32 &&& 0xFC#32 = 0#32
    ∧ (4#8).setWidth 32 &&& 0xFC#32 ≠ 0#32 ∧ (0xBFBB#16).setWidth 32 &&& 0x4044#32 = 0#32 ∧ (0x4000#16).setWidth 32 &&& 0x4044#32 ≠ 0#32
    ∧ (0x030F#16).setWidth 32 &&& 0xFCF0#32 = 0#32 ∧ (0x8000#16).setWidth 32 &&& 0xFCF0#32 ≠ 0#32
    ∧ s0.params.reservedWrite = .refuse ∧ ign.params.reservedWrite = .ignore
    ∧ s0.params.cfsrWrite = .rcW1 ∧ (sf .rw).params.cfsrWrite = .rw := by decide +kernel

theorem witness_HfsrWriteClearsFlags :
    0x40000002#32 &&& 0x3FFFFFFD#32 = 0#32 ∧ (0x40000002#32).getLsbD 31 = false ∧ 0x80000000#32 &&& 0x3FFFFFFD#32 = 0#32
    ∧ (0x80000000#32).getLsbD 31 = true ∧ 1#32 &&& 0x3FFFFFFD#32 ≠ 0#32 ∧ s0.params.reservedWrite = .refuse
    ∧ ign.params.reservedWrite = .ignore := by decide +kernel

theorem witness_AfsrWriteClearsBits :
    ({ s0 with auxfault := 1#32 } : State).auxfault.getLsbD 0 = true ∧ ({ s0 with auxfault := 1#32 } : State).auxfault.getLsbD 31 = false
    ∧ (0x80000000#32).getLsbD 0 = false := by decide +kernel

theorem witness_ReadAfterWriteReturnsTheWrittenBits :
    [Instr.wrActlr true 0x307#32, .wrVtor true 0x3FFFFE00#32, .wrScr true 0x16#32, .wrCcr true 0x31B#32, .wrShpr1 true 0x00FFFFFF#32,
        .wrShpr2 true 0xFF000000#32, .wrShpr3 true 0xFFFF0000#32, .wrShcsr true 0x0007FD8B#32].all (fun i => (nextOf (exec i s0)).isSome) = true := by
  decide +kernel

theorem witness_ShcsrWriteBackChangesNothing : Answers (exec (.rdShcsr true) s0) s0 (.word 0#32) := by
  have h : shcsrValue s0 = 0#32 := by decide +kernel
  show Host.Outcome.next { s0 with readData := some (.word (shcsrValue s0)) } = _
  rw [h]

theorem witness_TwoWritesClearCfsrInBothModes : 0x030FBFBB#32 &&& 0xFCF04044#32 = 0#32 := by decide +kernel

theorem witness_FaultThatCanBeTakenEntersItsHandler :
    sd.lockedUp = false ∧ sd.entryErrors = []
    ∧ [Cause.divbyzero, .lsperr, .iaccviol].all (fun c => canTake (sdEna ⟨true, true, true⟩) (causeClass c)) = true
    ∧ (∀ k, k < Size.word.bytes → isListed (sd.pc + BitVec.ofNat 32 k) = false)
    ∧ isListed (({ sd with pc := 0xE000ED3E#32 } : State).pc + BitVec.ofNat 32 1) = true
    ∧ OutsideBlock 0x60000000#32 Size.word.bytes ∧ OutsideBlock 0xE000ED40#32 4
    ∧ -1 < currentPriority sd ∧ (inHardFault false).seen.ccr.bfhfnmign = false := by decide +kernel

theorem witness_FaultThatCannotBeTakenIsEscalated :
    sd.lockedUp = false ∧ sd.entryErrors = [] ∧ [Cause.divbyzero, .preciserr, .lsperr, .daccviol].all (fun c => !canTake sd (causeClass c)) = true
    ∧ -1 < currentPriority sd := by decide +kernel

/-- At −1 exactly, and at −2. -/
theorem witness_FaultAtMinusOneOrMinusTwoLocksUp :
    (inHardFault true).lockedUp = false ∧ currentPriority (inHardFault true) = -1 ∧ currentPriority ((inHardFault false).setActive 2 true) = -2
    ∧ causeIsDataBusError .divbyzero = false ∧ causeIsDataBusError .preciserr = true ∧ (inHardFault false).seen.ccr.bfhfnmign = false
    ∧ (inHardFault true).seen.ccr.bfhfnmign = true ∧ OutsideBlock 0x60000000#32 Size.word.bytes ∧ OutsideBlock 0xE000ED40#32 4 := by decide +kernel

theorem witness_PreciseBusErrorRecordsTheRequestedAddress :
    OutsideBlock 0xE000ED40#32 Size.word.bytes ∧ s0.lockedUp = false ∧ -1 < currentPriority s0 ∧ (inHardFault false).lockedUp = false ∧ (inHardFault false).seen.ccr.bfhfnmign = false := by decide +kernel

theorem witness_IgnoredBusErrorRaisesNothing :
    OutsideBlock 0x60000000#32 Size.word.bytes ∧ (inHardFault true).lockedUp = false ∧ currentPriority (inHardFault true) ≤ -1 ∧ (inHardFault true).seen.ccr.bfhfnmign = true
    ∧ (inHardFault true).params.ignoredRecords = .status ∧ ({ inHardFault true with params := s0.params } : State).params.ignoredRecords = .none
    ∧ (inHardFault false).lockedUp = false ∧ currentPriority (inHardFault false) ≤ -1 ∧ (inHardFault false).seen.ccr.bfhfnmign = false := by
  decide +kernel

theorem witness_DataViolationRecordsAnAddressOfTheAccess :
    OutsideBlock 0x20000003#32 Size.word.bytes ∧ OutsideBlock 0x20000000#32 Size.word.bytes
    ∧ s0.lockedUp = false ∧ (0x20000000#32).toNat % Size.word.bytes = 0 ∧ (0x20000003#32).toNat % Size.word.bytes ≠ 0 := by decide +kernel

/-- One store in the buffer, the bus fault enabled and not. -/
def buffered (en : Bool) : State := sync { s0 with writeBuffer := [0x60000000#32], ena := ⟨false, en, false⟩ }
theorem witness_ImpreciseBusErrorBecomesPending :
    0 < (buffered true).writeBuffer.length ∧ (buffered true).actlr.disdefwbuf = false ∧ (buffered true).seen.ena.busfault = true
    ∧ 0 < (buffered false).writeBuffer.length ∧ (buffered false).seen.ena.busfault = false ∧ (buffered false).entryErrors = []
    ∧ -1 < currentPriority (buffered false)
    ∧ 0 < ({ inHardFault true with writeBuffer := [0x60000000#32] } : State).writeBuffer.length ∧ (inHardFault true).actlr.disdefwbuf = false
    ∧ (inHardFault true).seen.ena.busfault = false ∧ currentPriority (inHardFault true) ≤ -1 := by decide +kernel

theorem witness_DivideByZeroTrapsOrReturnsZero :
    s0.seen.ccr.div0Trp = false ∧ sd.seen.ccr.div0Trp = true ∧ sd.lockedUp = false ∧ sd.entryErrors = []
    ∧ canTake (sdEna ⟨true, false, false⟩) 6 = true := by decide +kernel

theorem witness_UnalignedAccessTraps :
    (0x20000000#32).toNat % Size.word.bytes = 0 ∧ (0x20000001#32).toNat % Size.byte.bytes = 0 ∧ s0.seen.ccr.unalignTrp = false
    ∧ (0x20000001#32).toNat % Size.half.bytes ≠ 0 ∧ ({ s0.seen.ccr with unalignTrp := true } : Ccr).unalignTrp = true ∧ s0.lockedUp = false
    ∧ (∀ k, k < Size.half.bytes → isListed (0x20000001#32 + BitVec.ofNat 32 k) = false)
    ∧ isListed (0xE000E005#32 + BitVec.ofNat 32 3) = true ∧ (0xE000E005#32).toNat % Size.word.bytes ≠ 0
    ∧ isListed (0xE000ED10#32 + BitVec.ofNat 32 0) = true ∧ isByteAccessible 0xE000ED10#32 = false ∧ isByteAccessible 0xE000ED2B#32 = true
    ∧ isListed (0xE000ED30#32 + BitVec.ofNat 32 4) = true ∧ (∀ k, k < 4 * 1 → isListed (0xE000ED30#32 + BitVec.ofNat 32 k) = false)
    ∧ (0xE000ED30#32).toNat % 4 = 0 ∧ (0x20000002#32).toNat % 4 ≠ 0 ∧ (∀ k, k < 4 * 2 → isListed (0x20000002#32 + BitVec.ofNat 32 k) = false)
    ∧ s0.actlr.disdefwbuf = false ∧ (sync { s0 with ccr := { s0.ccr with unalignTrp := true } }).seen.ccr.unalignTrp = true
    ∧ (∀ k, k < 4 → isListed (0xE000ECFC#32 + BitVec.ofNat 32 k) = false) ∧ isListed (0xE000ECFD#32 + BitVec.ofNat 32 3) = true := by
  decide +kernel

theorem witness_HighestPriorityExceptionIsTaken :
    twoPending.entryErrors = [] ∧ mayPreempt twoPending 14 = true ∧ mayPreempt twoPending 15 = true
    ∧ s0.entryErrors = [] ∧ ∀ n, n < 128 → 1 ≤ n → mayPreempt s0 n = false := by decide +kernel

theorem witness_DismcycintHoldsExceptionsBack :
    s0.actlr.dismcycint = false ∧ ({ s0 with actlr := { s0.actlr with dismcycint := true } } : State).actlr.dismcycint = true := by decide +kernel

theorem witness_EqualGroupPriorityNeverPreempts :
    isConfigurable 15 ∧ isConfigurable 14 ∧ (twoPending.setActive 14 true).isActive 14 = true
    ∧ groupValue (configPrio (twoPending.setActive 14 true).asSeen 15) (twoPending.setActive 14 true).seen.prigroup
      = groupValue (configPrio (twoPending.setActive 14 true).asSeen 14) (twoPending.setActive 14 true).seen.prigroup
    ∧ (sync { twoPending with prigroup := 7#3 }).seen.prigroup = 0b111#3 := by
  refine ⟨⟨by decide, by decide⟩, ⟨by decide, by decide⟩, ?_⟩; decide +kernel

theorem witness_PrioritySplitFollowsTable50 : (0#3).toNat ≤ 3 ∧ (3#3).toNat ≤ 3 := by decide +kernel

theorem witness_StackAlignmentIsUndoneByTheReturn :
    s0.seen.ccr.stkalign = true ∧ (sync { s0 with ccr := { s0.ccr with stkalign := false } }).seen.ccr.stkalign = false
    ∧ ({ s0 with sp := 0x20000004#32 } : State).sp.toNat % 4 = 0 := by decide +kernel

theorem witness_LegalReturnRestoresTheFrame :
    (inHandler frame0).frames = frame0 :: [] ∧ returnLegal true true frame0 (inHandler frame0) = true
    ∧ returnLegal false true { frame0 with exc := 14#9 } ((inHandler { frame0 with exc := 14#9 }).setActive 14 true) = true
    ∧ (sync { inHandler frame0 with scr := ⟨false, false, true⟩ }).seen.scr.sleeponexit = true
    ∧ (∀ m, m < 128 → 1 ≤ m → m ≠ (inHandler frame0).ipsr.toNat → (inHandler frame0).isActive m = false)
    ∧ returnLegal true true frame0 (sync { (inHandler frame0).setActive 127 true with ccr := { s0.ccr with nonbasethrdena := true } }) = true
    ∧ (inHandler frame0).seen.scr.sleeponexit = false := by decide +kernel

theorem witness_ReturnToThreadNeedsNoneActive :
    ((inHandler frame0).setActive 127 true).frames = frame0 :: [] ∧ 127 ≠ (inHandler frame0).ipsr.toNat
    ∧ ((inHandler frame0).setActive 127 true).isActive 127 = true ∧ ((inHandler frame0).setActive 1 true).isActive 1 = true
    ∧ (inHandler frame0).seen.ccr.nonbasethrdena = false ∧ (inHandler frame0).ipsr ≠ 0#9
    ∧ ((inHandler frame0).setActive 127 true).isActive 15 = true ∧ ({ s0.seen.ccr with nonbasethrdena := true } : Ccr).nonbasethrdena = true := by
  decide +kernel

theorem witness_UnstackingErrorIsChained :
    (inHandler frame0).frames = frame0 :: [] ∧ returnLegal true true frame0 (inHandler frame0) = true ∧ (inHandler frame0).lockedUp = false
    ∧ (inHandler frame0).entryErrors = []
    ∧ canTake ((sync { inHandler frame0 with ena := ⟨false, true, true⟩ }).setActive 15 false) (causeClass (unstackingCause .bus)) = true
    ∧ canTake ((sync { inHandler frame0 with ena := ⟨false, true, true⟩ }).setActive 15 false) (causeClass (unstackingCause .access)) = true := by
  decide +kernel

theorem witness_StackingErrorStillAdjustsTheSp :
    ({ s0 with entryErrors := [⟨[.bus], false, false⟩] } : State).lockedUp = false
    ∧ ({ s0 with entryErrors := [⟨[.bus], false, false⟩] } : State).entryErrors = [⟨[.bus], false, false⟩] := by decide +kernel

theorem witness_VectorErrorEntersTheHardFault :
    ∀ again, ({ s0 with entryErrors := [⟨[], true, again⟩] } : State).entryErrors = [⟨[], true, again⟩] ∧ 15 ≠ excHardFault
    ∧ -1 < currentPriority { s0 with entryErrors := [⟨[], true, again⟩] } := by decide +kernel

theorem witness_InterruptRequestPendsAndSignals :
    0 < s0.params.numIrq.val ∧ 111 < s0.params.numIrq.val ∧ (sync { s0 with scr := ⟨true, false, false⟩ }).seen.scr.sevonpend = true
    ∧ s0.isPending (16 + 111) = false ∧ s0.seen.scr.sevonpend = false ∧ (s0.setPending 127 true).isPending (16 + 111) = true
    ∧ ({ s0 with power := .asleep .wfe true } : State).power = .asleep .wfe true := by decide +kernel

theorem witness_AuxfaultIsLatchedWithoutAnException :
    (ready (.event (.auxfault 0x80000001#32))).lockedUp = false
    ∧ (ready (.event (.auxfault 0x80000001#32))).schedule = .event (.auxfault 0x80000001#32) :: [] := ⟨rfl, rfl⟩

theorem witness_ResetGivesEveryRegisterItsResetValue :
    (ready (.event .reset)).schedule = .event .reset :: []
    ∧ ({ ready (.event .reset) with lockedUp := true } : State).schedule = .event .reset :: [] := ⟨rfl, rfl⟩

end Sys2Proof.Tests
end

/-! What every step leaves: the exception arrays in range, no debug event, and, for an event, the configuration of the block. -/

namespace Sys2Proof.Machine

/-! ## The relation: the exception arrays stay in range -/

/-- From `s` to `t` the machine stays the same one, no debug event is recorded, and the only exceptions that become pending or active are ones that
the machine has: 1 to 15 + NUM_IRQ (R41, R9). -/
structure StaysInRange (s t : State) : Prop where
  params : t.params = s.params
  debugVt : s.hfsr.debugVt = false → t.hfsr.debugVt = false
  raised : ∀ n, t.isPending n = true ∨ t.isActive n = true →
    (s.isPending n = true ∨ s.isActive n = true) ∨ 1 ≤ n ∧ n ≤ 15 + s.params.numIrq.val

namespace StaysInRange

theorem refl (s : State) : StaysInRange s s := ⟨rfl, id, fun _ => .inl⟩

theorem trans {s t u : State} (h : StaysInRange s t) (k : StaysInRange t u) : StaysInRange s u where
  params := k.params.trans h.params
  debugVt hd := k.debugVt (h.debugVt hd)
  raised n hn := by
    rcases k.raised n hn with ht | hr
    · exact h.raised n ht
    · exact .inr (h.params ▸ hr)

/-- The invariant is what the relation carries over. -/
theorem inv {s t : State} (h : StaysInRange s t) (hi : Inv s) : Inv t := by
  obtain ⟨hrange, hdebug⟩ := hi
  refine ⟨fun n hn hset => ?_, h.debugVt hdebug⟩
  rw [h.params]
  exact (h.raised n hset).elim (hrange n hn) id

/-- An update of other fields. -/
theorem of_same {s t : State} (hparams : t.params = s.params := by rfl) (hdebug : t.hfsr.debugVt = s.hfsr.debugVt := by rfl)
    (hpending : t.pending = s.pending := by rfl) (hactive : t.active = s.active := by rfl) : StaysInRange s t where
  params := hparams
  debugVt h := hdebug.trans h
  raised n h := .inl (by simpa only [State.isPending, State.isActive, hpending, hactive] using h)

/-- A change of the pending state of an exception that the machine has. -/
theorem setPending {s t : State} (h : StaysInRange s t) {n : Nat} (hn : 1 ≤ n ∧ n ≤ 15 + t.params.numIrq.val) (b : Bool) :
    StaysInRange s (t.setPending n b) := by
  refine h.trans ⟨rfl, id, fun m hm => ?_⟩
  by_cases hmn : n = m
  · exact .inr (hmn ▸ hn)
  · simpa [hmn] using Or.inl hm

/-- A change of its active state. -/
theorem setActive {s t : State} (h : StaysInRange s t) {n : Nat} (hn : 1 ≤ n ∧ n ≤ 15 + t.params.numIrq.val) (b : Bool) :
    StaysInRange s (t.setActive n b) := by
  refine h.trans ⟨rfl, id, fun m hm => ?_⟩
  by_cases hmn : n = m
  · exact .inr (hmn ▸ hn)
  · simpa [hmn] using Or.inl hm

/-- Every machine has the system exceptions 1 to 15 (R41). -/
theorem setPending_system {s t : State} (h : StaysInRange s t) (n : Nat) (b : Bool) (hn : 1 ≤ n ∧ n ≤ 15 := by decide) :
    StaysInRange s (t.setPending n b) :=
  h.setPending ⟨hn.1, Nat.le_add_right_of_le hn.2⟩ b

theorem setActive_system {s t : State} (h : StaysInRange s t) (n : Nat) (b : Bool) (hn : 1 ≤ n ∧ n ≤ 15 := by decide) :
    StaysInRange s (t.setActive n b) :=
  h.setActive ⟨hn.1, Nat.le_add_right_of_le hn.2⟩ b

theorem setPending_system_if {s t : State} (h : StaysInRange s t) (c : Bool) (n : Nat) (b : Bool) (hn : 1 ≤ n ∧ n ≤ 15 := by decide) :
    StaysInRange s (if c then t.setPending n b else t) := by
  cases c
  · exact h
  · exact h.setPending_system n b hn

end StaysInRange

/-- The exceptions that faults raise are exceptions of every machine. -/
theorem isFaultExc_range {n : Nat} (h : isFaultExc n) (k : Nat) : 1 ≤ n ∧ n ≤ 15 + k := by
  simp only [isFaultExc, excHardFault, excMemManage, excBusFault, excUsageFault] at h
  omega

/-- The exception logic keeps the arrays in range (R324). -/
theorem Evolves.staysInRange {s t : State} (h : Evolves s t) : StaysInRange s t where
  params := h.config.params
  debugVt hd := h.debugVt.trans hd
  raised n hn := by
    rcases hn with hp | ha
    · rcases h.pending n hp with hp | hf
      · exact .inl (.inl hp)
      · exact .inr (isFaultExc_range hf _)
    · rcases h.active n ha with ha | hp | hf
      · exact .inl (.inr ha)
      · exact .inl (.inl hp)
      · exact .inr (isFaultExc_range hf _)

/-! ## Accesses keep the arrays in range -/

/-- A rule that, wherever it performs the write, keeps the arrays in range. -/
def RuleInRange (rule : State → Result) : Prop := ∀ s t, rule s = .next t → StaysInRange s t

/-- An unprivileged access is a fault, which the exception logic handles (R79). -/
theorem unprivilegedAccess_inRange (load : Bool) (a : Word) : RuleInRange (unprivilegedAccess load a) := by
  intro s t h
  cases h
  have hdata : StaysInRange s { s with readData := none } := .of_same
  exact hdata.trans (evolves_preciseBusError load a _).staysInRange

theorem readAccess_inRange (priv : Bool) (a : Word) (value : State → ReadData) : RuleInRange (readAccess priv a value) := by
  intro s t h
  cases priv
  · exact unprivilegedAccess_inRange true a s t h
  · cases h; exact .of_same

theorem writeAccess_inRange (priv : Bool) (a : Word) {rule : State → Result} (hr : RuleInRange rule) :
    RuleInRange (writeAccess priv a rule) := by
  intro s t h
  cases priv
  · exact unprivilegedAccess_inRange false a s t h
  · have hdata : StaysInRange s { s with readData := none } := .of_same
    exact hdata.trans (hr _ t h)

theorem guardReserved_inRange (r v : Word) {rule : State → Result} (hr : RuleInRange rule) : RuleInRange (guardReserved r v rule) :=
  fun s t h => hr s t (guardReserved_next h)

/-- A rule that always performs the write. -/
theorem ruleInRange_of_next {f : State → State} (hf : ∀ s, StaysInRange s (f s)) : RuleInRange fun s => .next (f s) := by
  intro s t h
  cases h
  exact hf s

/-- A rule that may refuse the write by its value. -/
theorem ruleInRange_refuseIf {c : Bool} {why : Refusal} {rule : State → Result} (hr : RuleInRange rule) :
    RuleInRange fun s => if c then .refused why else rule s := by
  intro s t h
  cases c
  · exact hr s t h
  · cases h

theorem writeActlr_inRange (v : Word) : RuleInRange (writeActlr v) := guardReserved_inRange _ _ (ruleInRange_of_next fun _ => .of_same)
theorem writeCpuid_inRange (v : Word) : RuleInRange (writeCpuid v) := ruleInRange_of_next .refl
theorem writeVtor_inRange (v : Word) : RuleInRange (writeVtor v) := guardReserved_inRange _ _ (ruleInRange_of_next fun _ => .of_same)
theorem writeScr_inRange (v : Word) : RuleInRange (writeScr v) := guardReserved_inRange _ _ (ruleInRange_of_next fun _ => .of_same)
theorem writeCcr_inRange (v : Word) : RuleInRange (writeCcr v) := guardReserved_inRange _ _ (ruleInRange_of_next fun _ => .of_same)
theorem writeMmfar_inRange (v : Word) : RuleInRange (writeMmfar v) := ruleInRange_of_next fun _ => .of_same
theorem writeBfar_inRange (v : Word) : RuleInRange (writeBfar v) := ruleInRange_of_next fun _ => .of_same
theorem writeAfsr_inRange (v : Word) : RuleInRange (writeAfsr v) := ruleInRange_of_next fun _ => .of_same
theorem writeShpr1_inRange (v m : Word) : RuleInRange (writeShpr1 v m) := guardReserved_inRange _ _ (ruleInRange_of_next fun _ => .of_same)
theorem writeShpr2_inRange (v m : Word) : RuleInRange (writeShpr2 v m) := guardReserved_inRange _ _ (ruleInRange_of_next fun _ => .of_same)
theorem writeShpr3_inRange (v m : Word) : RuleInRange (writeShpr3 v m) := guardReserved_inRange _ _ (ruleInRange_of_next fun _ => .of_same)
theorem writeCfsr_inRange (v m : Word) : RuleInRange (writeCfsr v m) := guardReserved_inRange _ _ (ruleInRange_of_next fun _ => .of_same)

/-- A write of HFSR leaves DEBUG_VT (R252, R253). -/
theorem writeHfsr_inRange (v : Word) : RuleInRange (writeHfsr v) :=
  guardReserved_inRange _ _ (ruleInRange_refuseIf (ruleInRange_of_next fun _ => .of_same))

theorem writeAircr_inRange (v : Word) : RuleInRange (writeAircr v) := by
  intro s t h
  have keyed : RuleInRange (aircrKeyed v) := ruleInRange_refuseIf (ruleInRange_of_next fun _ => .of_same)
  unfold writeAircr at h
  split at h
  · exact guardReserved_inRange _ v keyed s t h
  · cases h; exact .refl s

/-- The trigger bits of ICSR act on NMI, PendSV and SysTick (R142 to R144). -/
theorem icsrTriggers_inRange (v : Word) (s : State) : StaysInRange s (icsrTriggers v s) :=
  (StaysInRange.refl s).setPending_system_if _ excNmi true |>.setPending_system_if _ excPendSv true
    |>.setPending_system_if _ excPendSv false |>.setPending_system_if _ excSysTick true |>.setPending_system_if _ excSysTick false

theorem writeIcsr_inRange (v : Word) : RuleInRange (writeIcsr v) :=
  ruleInRange_refuseIf (guardReserved_inRange _ v (ruleInRange_refuseIf (ruleInRange_of_next (icsrTriggers_inRange v))))

/-- The pended bits of SHCSR act on system exceptions (R213). -/
theorem shcsrPended_inRange (v : Word) (s : State) : StaysInRange s (shcsrPended v s) :=
  (StaysInRange.refl s).setPending_system excSvCall _ |>.setPending_system excBusFault _ |>.setPending_system excMemManage _
    |>.setPending_system excUsageFault _

/-- So do the active bits (R214). -/
theorem shcsrActive_inRange (v : Word) (s : State) : StaysInRange s (shcsrActive v s) :=
  (StaysInRange.refl s).setActive_system excSysTick _ |>.setActive_system excPendSv _ |>.setActive_system excDebugMonitor _
    |>.setActive_system excSvCall _ |>.setActive_system excUsageFault _ |>.setActive_system excBusFault _
    |>.setActive_system excMemManage _

theorem writeShcsr_inRange (v : Word) : RuleInRange (writeShcsr v) :=
  guardReserved_inRange _ v (ruleInRange_of_next fun s =>
    StaysInRange.trans (t := { s with ena := ⟨v.getLsbD 18, v.getLsbD 17, v.getLsbD 16⟩ }) .of_same
      ((shcsrPended_inRange v _).trans (shcsrActive_inRange v _)))

theorem execRdIcsr_inRange (priv : Bool) : RuleInRange (execRdIcsr priv) := by
  intro s t h
  cases priv
  · exact unprivilegedAccess_inRange true _ s t h
  · cases h; exact .of_same

/-- Every operation of the block keeps the arrays in range. -/
theorem exec_inRange (i : Instr) : RuleInRange (exec i) := by
  cases i with
  | rdIcsr p => exact execRdIcsr_inRange p
  | rdActlr | rdCpuid | rdVtor | rdAircr | rdScr | rdCcr | rdShpr1 | rdShpr2 | rdShpr3 | rdShcsr | rdCfsr | rdHfsr | rdMmfar | rdBfar
  | rdAfsr | rdbPri4 | rdbPri5 | rdbPri6 | rdbShpr1B3 | rdhShpr1Lo | rdhShpr1Hi | rdbShpr2B0 | rdbShpr2B1 | rdbShpr2B2 | rdbPri11
  | rdhShpr2Lo | rdhShpr2Hi | rdbShpr3B0 | rdbShpr3B1 | rdbPri14 | rdbPri15 | rdhShpr3Lo | rdhShpr3Hi | rdbMmfsr | rdbBfsr
  | rdbUfsrLo | rdbUfsrHi | rdhCfsrLo | rdhUfsr => exact readAccess_inRange _ _ _
  | wrActlr p v => exact writeAccess_inRange p _ (writeActlr_inRange v)
  | wrCpuid p v => exact writeAccess_inRange p _ (writeCpuid_inRange v)
  | wrIcsr p v => exact writeAccess_inRange p _ (writeIcsr_inRange v)
  | wrVtor p v => exact writeAccess_inRange p _ (writeVtor_inRange v)
  | wrAircr p v => exact writeAccess_inRange p _ (writeAircr_inRange v)
  | wrScr p v => exact writeAccess_inRange p _ (writeScr_inRange v)
  | wrCcr p v => exact writeAccess_inRange p _ (writeCcr_inRange v)
  | wrShcsr p v => exact writeAccess_inRange p _ (writeShcsr_inRange v)
  | wrHfsr p v => exact writeAccess_inRange p _ (writeHfsr_inRange v)
  | wrMmfar p v => exact writeAccess_inRange p _ (writeMmfar_inRange v)
  | wrBfar p v => exact writeAccess_inRange p _ (writeBfar_inRange v)
  | wrAfsr p v => exact writeAccess_inRange p _ (writeAfsr_inRange v)
  | wrShpr1 p | wrbPri4 p | wrbPri5 p | wrbPri6 p | wrbShpr1B3 p | wrhShpr1Lo p | wrhShpr1Hi p =>
    exact writeAccess_inRange p _ (writeShpr1_inRange _ _)
  | wrShpr2 p | wrbShpr2B0 p | wrbShpr2B1 p | wrbShpr2B2 p | wrbPri11 p | wrhShpr2Lo p | wrhShpr2Hi p =>
    exact writeAccess_inRange p _ (writeShpr2_inRange _ _)
  | wrShpr3 p | wrbShpr3B0 p | wrbShpr3B1 p | wrbPri14 p | wrbPri15 p | wrhShpr3Lo p | wrhShpr3Hi p =>
    exact writeAccess_inRange p _ (writeShpr3_inRange _ _)
  | wrCfsr p | wrbMmfsr p | wrbBfsr p | wrbUfsrLo p | wrbUfsrHi p | wrhCfsrLo p | wrhUfsr p =>
    exact writeAccess_inRange p _ (writeCfsr_inRange _ _)

/-! ## What an event can do -/

/-- What an event other than reset and the taking up of a register may do: the configuration and the fields that the processor acts on stay (R47, R81),
and so do the exceptions in range. -/
structure EventEffect (s t : State) : Prop where
  config : SameConfig s t
  seen : t.seen = s.seen
  range : StaysInRange s t

namespace EventEffect

theorem refl (s : State) : EventEffect s s := ⟨.refl s, rfl, .refl s⟩

theorem trans {s t u : State} (h : EventEffect s t) (k : EventEffect t u) : EventEffect s u :=
  ⟨h.config.trans k.config, k.seen.trans h.seen, h.range.trans k.range⟩

/-- An update that leaves these fields alone. -/
theorem of_same {s t : State} (hconfig : SameConfig s t := by constructor <;> rfl) (hseen : t.seen = s.seen := by rfl)
    (hrange : StaysInRange s t := by exact StaysInRange.of_same) : EventEffect s t :=
  ⟨hconfig, hseen, hrange⟩

/-- A change of the pending state of an exception that the machine has. -/
theorem setPending {s t : State} (h : EventEffect s t) {n : Nat} (hn : 1 ≤ n ∧ n ≤ 15 + t.params.numIrq.val) (b : Bool) :
    EventEffect s (t.setPending n b) :=
  h.trans ⟨by constructor <;> rfl, rfl, (StaysInRange.refl t).setPending hn b⟩

end EventEffect

/-- What the exception logic does is such an effect (R324). -/
theorem Evolves.eventEffect {s t : State} (h : Evolves s t) : EventEffect s t := ⟨h.config, h.rest.seen, h.staysInRange⟩

theorem latchAuxfault_effect (s : State) : EventEffect s (latchAuxfault s) := by
  unfold latchAuxfault
  split
  · exact .refl s
  · exact .of_same

theorem signalEvent_effect (s : State) : EventEffect s (signalEvent s) := .of_same

theorem requestException_effect {n : Nat} (s : State) (hn : 1 ≤ n ∧ n ≤ 15 + s.params.numIrq.val) :
    EventEffect s (requestException n s) := by
  unfold requestException
  dsimp only
  split
  · exact (signalEvent_effect s).setPending hn true
  · exact (EventEffect.refl s).setPending hn true

/-- The request of a system exception. -/
theorem requestException_system_effect (n : Nat) (s : State) (hn : 1 ≤ n ∧ n ≤ 15 := by decide) :
    EventEffect s (requestException n s) :=
  requestException_effect s ⟨hn.1, Nat.le_add_right_of_le hn.2⟩

/-- The exception of a line that the machine has is in range (R9, R41). -/
theorem hasIrq_range {s : State} {k : Nat} (h : hasIrq s k = true) : 1 ≤ 16 + k ∧ 16 + k ≤ 15 + s.params.numIrq.val := by
  simp only [hasIrq, decide_eq_true_eq] at h
  omega

theorem eventIrq_effect {k : Nat} {s t : State} (h : eventIrq k s = .next t) : EventEffect s t := by
  unfold eventIrq at h
  split at h
  next hk => cases h; exact requestException_effect s (hasIrq_range hk)
  next => cases h

theorem eventIrqClear_effect {k : Nat} {s t : State} (h : eventIrqClear k s = .next t) : EventEffect s t := by
  unfold eventIrqClear at h
  split at h
  next hk => cases h; exact (EventEffect.refl s).setPending (hasIrq_range hk) false
  next => cases h

theorem eventNvic_effect {k : Nat} {en : Bool} {p : BitVec 4} {s t : State} (h : eventNvic k en p s = .next t) : EventEffect s t := by
  unfold eventNvic at h
  split at h
  · cases h; exact .of_same
  · cases h

theorem eventStir_effect {priv : Bool} {k : Nat} {s t : State} (h : eventStir priv k s = .next t) : EventEffect s t := by
  unfold eventStir at h
  split at h
  · exact eventIrq_effect h
  · cases h

theorem eventCore_effect {pc sp : Word} {s t : State} (h : eventCore pc sp s = .next t) : EventEffect s t := by
  unfold eventCore at h
  split at h
  · cases h
  · cases h; exact .of_same

theorem eventAutoFpca_effect (v : Bool) (s : State) : EventEffect s (eventAutoFpca v s) := by
  unfold eventAutoFpca
  split
  · exact .refl s
  · exact .of_same

theorem fallAsleep_effect (c : SleepCause) (s : State) : EventEffect s (fallAsleep c s) := .of_same

theorem eventWfe_effect (s : State) : EventEffect s (eventWfe s) := by
  unfold eventWfe
  split
  · have drawn : EventEffect s { s with eventRegister := Config.drawBit s.drawn, drawn := s.drawn + 2 } := .of_same
    dsimp only
    split
    · exact drawn.trans (fallAsleep_effect .wfe _)
    · exact drawn
  · exact fallAsleep_effect .wfe s

theorem eventDivideByZero_effect (s : State) : EventEffect s (eventDivideByZero s) := by
  unfold eventDivideByZero
  split
  · exact (evolves_reportFault (.inl rfl) s).eventEffect
  · exact .of_same

/-- What is refused in the block has elsewhere the effect of the access. -/
theorem refuseInBlock_effect {a : Word} {n : Nat} {why : Refusal} {done s t : State} (hd : EventEffect s done)
    (h : refuseInBlock a n why (.next done) = .next t) : EventEffect s t := by
  obtain ⟨-, hgo⟩ := refuseInBlock_next h
  cases hgo
  exact hd

theorem bufferOrComplete_effect (a : Word) (fails : Bool) (s : State) : EventEffect s (bufferOrComplete a fails s) := by
  unfold bufferOrComplete
  split
  · split
    · exact (evolves_preciseBusError false a s).eventEffect
    · exact .refl s
  · exact .of_same

theorem eventBufferableStore_effect {size : Size} {a : Word} {fails : Bool} {s t : State}
    (h : eventBufferableStore size a fails s = .next t) : EventEffect s t := by
  refine refuseInBlock_effect ?_ h
  rcases alignedOrTrap_cases s.seen.ccr.unalignTrp size a (bufferOrComplete a fails s) s with ⟨-, -, trapped⟩ | ⟨-, performed⟩
  · rw [trapped]; exact (evolves_reportFault (.inl rfl) s).eventEffect
  · rw [performed]; exact bufferOrComplete_effect a fails s

theorem eventDrain_effect {i : Nat} {fails : Bool} {next : Word} {s t : State} (h : eventDrain i fails next s = .next t) :
    EventEffect s t := by
  have completed : EventEffect s { s with writeBuffer := s.writeBuffer.eraseIdx i } := .of_same
  unfold eventDrain at h
  split at h
  · dsimp only at h
    split at h
    · split at h
      · cases h
      · cases h; exact completed.trans (evolves_impreciseBusError next _).eventEffect
    · cases h; exact completed
  · cases h; exact .refl s

/-- Everything an event can do when it is performed: reset, the taking up of a register, or an effect that leaves the configuration. -/
theorem performEvent_next {e : Event} {s t : State} (h : performEvent e s = .next t) :
    (e = .reset ∧ t = applyReset s) ∨ (∃ r, e = .observe r ∧ t = s.observe r) ∨ EventEffect s t := by
  cases e with
  | reset => cases h; exact .inl ⟨rfl, rfl⟩
  | observe r => cases h; exact .inr (.inl ⟨r, rfl, rfl⟩)
  | auxfault level =>
    cases h
    have input : EventEffect s { s with auxfault := level } := .of_same
    exact .inr (.inr (input.trans (latchAuxfault_effect _)))
  | nmi => cases h; exact .inr (.inr (requestException_system_effect excNmi s))
  | sysTick => cases h; exact .inr (.inr (requestException_system_effect excSysTick s))
  | svc => cases h; exact .inr (.inr (requestException_system_effect excSvCall s))
  | irq => exact .inr (.inr (eventIrq_effect h))
  | irqClear => exact .inr (.inr (eventIrqClear_effect h))
  | nvic => exact .inr (.inr (eventNvic_effect h))
  | stir => exact .inr (.inr (eventStir_effect h))
  | core => exact .inr (.inr (eventCore_effect h))
  | autoFpca v => cases h; exact .inr (.inr (eventAutoFpca_effect v s))
  | externalEvent | sev => cases h; exact .inr (.inr (signalEvent_effect s))
  | wfe => cases h; exact .inr (.inr (eventWfe_effect s))
  | wfi => cases h; exact .inr (.inr (fallAsleep_effect .wfi s))
  | masks | entryErrors => cases h; exact .inr (.inr .of_same)
  | prefetchError => cases h; exact .inr (.inr (.refl s))
  | divideByZero => cases h; exact .inr (.inr (eventDivideByZero_effect s))
  | coprocessor | illegalEpsr | undefinedInstr => cases h; exact .inr (.inr (evolves_reportFault (.inl rfl) s).eventEffect)
  | issueError | fetchViolation => exact .inr (.inr (refuseInBlock_effect (evolves_reportFault (.inl rfl) s).eventEffect h))
  | dataAccess | multiAccess => exact .inr (.inr (refuseInBlock_effect (evolves_alignedOrTrap _ _ _ s).eventEffect h))
  | busError load size a => exact .inr (.inr (refuseInBlock_effect (evolves_preciseBusError load a s).eventEffect h))
  | dataViolation size a => exact .inr (.inr (refuseInBlock_effect (evolves_dataViolation size a s).eventEffect h))
  | lazyBusError a => exact .inr (.inr (refuseInBlock_effect (evolves_lazyFault (c := .lsperr) trivial a s).eventEffect h))
  | lazyViolation a => exact .inr (.inr (refuseInBlock_effect (evolves_lazyFault (c := .mlsperr) trivial a s).eventEffect h))
  | fetch => exact .inr (.inr (refuseInBlock_effect (.refl s) h))
  | bufferableStore => exact .inr (.inr (eventBufferableStore_effect h))
  | drain => exact .inr (.inr (eventDrain_effect h))
  | takeException m next => cases h; exact .inr (.inr (evolves_eventTakeException m next s).eventEffect)
  | exceptionReturn th v u => cases h; exact .inr (.inr (evolves_exceptionReturn th v u s).eventEffect)

/-! ## Reset: the fields it leaves, and the step that serves it (R51, R381) -/

@[simp] theorem applyReset_actlr (s : State) : (applyReset s).actlr = Actlr.reset := rfl
@[simp] theorem applyReset_tbloff (s : State) : (applyReset s).tbloff = 0#21 := rfl
@[simp] theorem applyReset_prigroup (s : State) : (applyReset s).prigroup = 0#3 := rfl
@[simp] theorem applyReset_scr (s : State) : (applyReset s).scr = Scr.reset := rfl
@[simp] theorem applyReset_ccr (s : State) : (applyReset s).ccr = Ccr.reset := rfl
@[simp] theorem applyReset_pri (s : State) : (applyReset s).pri = Pri.reset := rfl
@[simp] theorem applyReset_ena (s : State) : (applyReset s).ena = Enables.reset := rfl
@[simp] theorem applyReset_cfsr (s : State) : (applyReset s).cfsr = Cfsr.reset := rfl
@[simp] theorem applyReset_hfsr (s : State) : (applyReset s).hfsr = Hfsr.reset := rfl
@[simp] theorem applyReset_ipsr (s : State) : (applyReset s).ipsr = 0#9 := rfl

@[simp] theorem isPending_applyReset (s : State) (n : Nat) : (applyReset s).isPending n = false := by
  by_cases hn : n < 128 <;> simp [State.isPending, applyReset, State.resetAt, hn]

@[simp] theorem isActive_applyReset (s : State) (n : Nat) : (applyReset s).isActive n = false := by
  by_cases hn : n < 128 <;> simp [State.isActive, applyReset, State.resetAt, hn]

/-- Reset empties the exception arrays (R381). -/
theorem applyReset_inRange (s : State) : StaysInRange s (applyReset s) := ⟨rfl, fun _ => rfl, fun n h => by simp at h⟩

/-- Reset acts whatever the processor does, in lock-up too (R304, R380). -/
theorem stepEvent_reset (s : State) : stepEvent .reset s = .next (applyReset s) := by
  cases hl : s.lockedUp <;> simp [stepEvent, lockedUpEvent, isCoreInstruction, kindOf, performEvent, hl]

/-! ## Every step -/

theorem performEvent_inRange (e : Event) : RuleInRange (performEvent e) := by
  intro s t h
  rcases performEvent_next h with ⟨-, rfl⟩ | ⟨r, -, rfl⟩ | effect
  · exact applyReset_inRange s
  · exact .of_same
  · exact effect.range

theorem stepAccess_inRange (bytes : List Byte) : RuleInRange (stepAccess bytes) := by
  intro s t h
  obtain ⟨-, -, -, i, -, hexec⟩ := stepAccess_next h
  exact exec_inRange i s t hexec

theorem stepEvent_inRange (e : Event) : RuleInRange (stepEvent e) := by
  intro s t h
  rcases stepEvent_next h with ⟨-, -, rfl⟩ | ⟨-, -, rfl⟩ | ⟨-, -, -, performed⟩
  · exact applyReset_inRange s
  · exact .refl _
  · exact performEvent_inRange e s t performed

/-- Taking the head of the schedule, with the AUXFAULT inputs latched or not, leaves the rest (R264). -/
theorem afterFetch_effect (s : State) : EventEffect s (afterFetch s) := .of_same

theorem latchBefore_effect (e : Event) (s : State) : EventEffect s (latchBefore e s) := by
  unfold latchBefore
  split
  · exact .refl s
  · exact latchAuxfault_effect s

/-- The step that serves an event. -/
theorem step_event {s : State} {e : Event} {rest : List Stimulus} (h : s.schedule = .event e :: rest) :
    step s = stepEvent e (latchBefore e (afterFetch s)) := by
  simp [step, h]

/-- Every step keeps the exception arrays in range. -/
theorem step_inRange : RuleInRange step := by
  intro s t h
  unfold step at h
  split at h
  · cases h; exact (latchAuxfault_effect s).range
  next bytes _ _ =>
    exact ((afterFetch_effect s).trans (latchAuxfault_effect _)).range.trans (stepAccess_inRange bytes _ t h)
  next e _ _ =>
    exact ((afterFetch_effect s).trans (latchBefore_effect e _)).range.trans (stepEvent_inRange e _ t h)

/-- Settles O9: a step only ever raises exceptions that the machine has, and never DEBUG_VT, so it carries the invariant over. -/
theorem stepKeepsTheInvariant : Obligations.StepKeepsTheInvariant := by
  intro s t hinv hstep
  exact (step_inRange s t hstep).inv hinv

/-! ## Events and the configuration -/

/-- A step that serves an event other than reset either takes up a register or has an effect that leaves the configuration. -/
theorem stepEvent_next_ne_reset {e : Event} {s t : State} (he : e ≠ .reset) (h : stepEvent e s = .next t) :
    (∃ r, e = .observe r ∧ t = s.observe r) ∨ EventEffect s t := by
  rcases stepEvent_next h with ⟨-, hreset, -⟩ | ⟨-, -, rfl⟩ | ⟨-, -, -, performed⟩
  · exact absurd hreset he
  · exact .inr (.refl _)
  · rcases performEvent_next performed with ⟨hreset, -⟩ | taken | effect
    · exact absurd hreset he
    · exact .inl taken
    · exact .inr effect

/-- Taking up a register changes no stored field. -/
theorem sameConfig_observe (s : State) (r : SettingReg) : SameConfig s (s.observe r) := by constructor <;> rfl

/-- Settles O13: only reset writes the configuration, and only the taking up of a register what the processor acts on. -/
theorem eventsLeaveTheConfiguration : Obligations.EventsLeaveTheConfiguration := by
  refine ⟨fun s t e rest hsched he hstep => ?_, fun s => ⟨rfl, rfl, rfl, rfl, rfl, rfl, rfl, rfl⟩⟩
  rw [step_event hsched] at hstep
  have latched := (afterFetch_effect s).trans (latchBefore_effect e _)
  rcases stepEvent_next_ne_reset he hstep with ⟨r, taken, rfl⟩ | effect
  · exact ⟨latched.config.trans (sameConfig_observe _ r), fun hne => absurd taken (hne r)⟩
  · have total := latched.trans effect
    exact ⟨total.config, fun _ => total.seen⟩

/-! ## What the registers read after reset -/

/-- A read that returns the value of a register answers that value. -/
theorem answers_of_value {value : State → Word} {s : State} {v : Word} (h : value s = v) :
    Answers (.next { s with readData := some (.word (value s)) }) s (.word v) := by
  rw [h]; rfl

@[simp] theorem bitAt_false (i : Nat) : bitAt false i = 0#32 := rfl

theorem actlrValue_applyReset (s : State) : actlrValue (applyReset s) = 0#32 := by simp [actlrValue, Actlr.reset]
theorem vtorValue_applyReset (s : State) : vtorValue (applyReset s) = 0#32 := by simp [vtorValue, fieldAt]
theorem aircrValue_applyReset (s : State) : aircrValue (applyReset s) = 0xFA050000#32 := by
  simp [aircrValue, fieldAt, Config.aircrReadKey]
theorem scrValue_applyReset (s : State) : scrValue (applyReset s) = 0#32 := by simp [scrValue, Scr.reset]
theorem ccrValue_applyReset (s : State) : ccrValue (applyReset s) = 0x00000200#32 := by simp [ccrValue, Ccr.reset, bitAt]
theorem shpr1Value_applyReset (s : State) : shpr1Value (applyReset s) = 0#32 := by simp [shpr1Value, Pri.reset, fieldAt]
theorem shpr2Value_applyReset (s : State) : shpr2Value (applyReset s) = 0#32 := by simp [shpr2Value, Pri.reset, fieldAt]
theorem shpr3Value_applyReset (s : State) : shpr3Value (applyReset s) = 0#32 := by simp [shpr3Value, Pri.reset, fieldAt]
theorem shcsrValue_applyReset (s : State) : shcsrValue (applyReset s) = 0#32 := by simp [shcsrValue, Enables.reset]
theorem cfsrValue_applyReset (s : State) : cfsrValue (applyReset s) = 0#32 := by simp [cfsrValue, cfsrWord, Cfsr.reset]
theorem hfsrValue_applyReset (s : State) : hfsrValue (applyReset s) = 0#32 := by simp [hfsrValue, hfsrWord, Hfsr.reset]

/-- Nothing is pending after reset, so no exception is named by ICSR. -/
theorem vectPending_applyReset (s : State) : vectPending (applyReset s) = 0#7 := by
  simp [vectPending, vectCandidates, highest]

theorem isrPending_applyReset (s : State) : isrPending (applyReset s) = false := by
  simp [isrPending]

/-- After reset ICSR reads 0 outside bits 27, 25 and 11, which read unknown (R140, R51). -/
theorem icsrValue_applyReset (s : State) : icsrValue (applyReset s) &&& 0xF5FFF7FF#32 = 0#32 := by
  simp only [icsrValue, retToBase, applyReset_ipsr, isPending_applyReset, isrPending_applyReset, vectPending_applyReset, if_true]
  have unknownBits : ∀ b27 b25 b11 : Bool,
      (bitAt false 31 ||| bitAt false 28 ||| bitAt b27 27 ||| bitAt false 26 ||| bitAt b25 25 ||| bitAt false 22
        ||| fieldAt 0#7 12 ||| bitAt b11 11 ||| fieldAt 0#9 0) &&& 0xF5FFF7FF#32 = 0#32 := by decide
  exact unknownBits _ _ _

/-- Settles O60: the step is `applyReset`, whose fields hold the reset values. -/
theorem resetGivesEveryRegisterItsResetValue : Obligations.ResetGivesEveryRegisterItsResetValue := by
  intro s rest hsched
  have hstep : step s = .next (applyReset (latchAuxfault (afterFetch s))) := by
    rw [step_event hsched, stepEvent_reset]; rfl
  have latched := (afterFetch_effect s).trans (latchAuxfault_effect _)
  have hrest : (latchAuxfault (afterFetch s)).schedule = rest := by
    unfold latchAuxfault; split <;> simp [afterFetch, hsched]
  refine ⟨_, hstep, hrest, rfl, rfl, rfl, isPending_applyReset _, isActive_applyReset _, latched.config.params, rfl, ?_⟩
  exact
    ⟨answers_of_value (actlrValue_applyReset _), answers_of_value (value := cpuidValue) rfl, ⟨_, rfl, icsrValue_applyReset _⟩,
      answers_of_value (vtorValue_applyReset _), answers_of_value (aircrValue_applyReset _), answers_of_value (scrValue_applyReset _),
      answers_of_value (ccrValue_applyReset _), answers_of_value (shpr1Value_applyReset _), answers_of_value (shpr2Value_applyReset _),
      answers_of_value (shpr3Value_applyReset _), answers_of_value (shcsrValue_applyReset _), answers_of_value (cfsrValue_applyReset _),
      answers_of_value (hfsrValue_applyReset _)⟩

end Sys2Proof.Machine

/-! The opcode table and the address map (R70, R74, R100 to R110): which accesses the decoder takes, and by what name it refuses the others. -/

namespace Sys2Proof

/-! ## The data of an operation -/

/-- The data that an operation keeps of the word `d` of its access: none for a read, and the bytes of its size for a write (R100). -/
def carriedData : Dir → Size → Word → Word
  | .read, _, _ => 0#32
  | .write, .byte, d => (d.setWidth 8).setWidth 32
  | .write, .half, d => (d.setWidth 16).setWidth 32
  | .write, .word, d => d

/-- A word that fits in `n` bits is not changed by cutting it to them. -/
theorem setWidth_setWidth_of_lt {n : Nat} {d : Word} (h : d.toNat < 2 ^ n) : (d.setWidth n).setWidth 32 = d := by
  apply BitVec.eq_of_toNat_eq
  simp only [BitVec.toNat_setWidth, Nat.mod_eq_of_lt h, Nat.mod_eq_of_lt d.isLt]

/-- Data as R100 says are kept whole. -/
theorem carriedData_eq {a : Access} (hfits : a.dataFits = true) (hread : a.readCarriesNone = true) :
    carriedData a.dir a.size a.data = a.data := by
  obtain ⟨p, dir, size, addr, d⟩ := a
  cases dir with
  | read => exact (eq_of_beq (a := d) (b := 0#32) hread).symm
  | write =>
    have hlt : d.toNat < 2 ^ (8 * size.bytes) := of_decide_eq_true hfits
    cases size with
    | byte => exact setWidth_setWidth_of_lt hlt
    | half => exact setWidth_setWidth_of_lt hlt
    | word => rfl

/-! ## The rows and the map -/

/-- The operation of a row is the access that the row selects (R110). -/
theorem access_make {r : Row} (hr : r ∈ opcodeTable) (p : Bool) (d : Word) :
    (r.make p d).access = ⟨p, r.dir, r.size, r.addr, carriedData r.dir r.size d⟩ := by
  have columns : (opcodeTable.map fun r => (r.make p d).access) =
      opcodeTable.map fun r => ⟨p, r.dir, r.size, r.addr, carriedData r.dir r.size d⟩ := rfl
  exact List.map_inj_left.mp columns r hr

/-- The address map allows an access of the size at the address (R70, R74, R75). -/
def mapAllows (size : Size) (addr : Word) : Bool :=
  isListed addr && (addr.toNat % size.bytes == 0 && (size == .word || isByteAccessible addr))

theorem mapAllows_access (a : Access) : mapAllows a.size a.addr = (isListed a.addr && (a.aligned && a.sizeAllowed)) := rfl

/-- An access is well formed when the map allows it and its data are as R100 says. -/
theorem wellFormed_iff {a : Access} :
    a.wellFormed = true ↔ mapAllows a.size a.addr = true ∧ (a.dataFits && a.readCarriesNone) = true := by
  simp only [Access.wellFormed, mapAllows_access, Bool.and_eq_true, and_assoc]

theorem selects_iff {r : Row} {a : Access} : r.selects a = true ↔ r.dir = a.dir ∧ r.size = a.size ∧ r.addr = a.addr := by
  simp only [Row.selects, Bool.and_eq_true, beq_iff_eq, and_assoc]

/-- Every row is one that the map allows. -/
theorem mapAllows_of_mem : ∀ r ∈ opcodeTable, mapAllows r.size r.addr = true := by decide +kernel

/-- Every direction and size that the map allows at one of the four bytes of a register has a row. -/
theorem row_of_register (dir : Dir) (size : Size) :
    (addressMap.all fun e => (List.range 4).all fun k =>
      !mapAllows size (e.1 ||| BitVec.ofNat 32 k) ||
        opcodeTable.any fun r => r.selects ⟨false, dir, size, e.1 ||| BitVec.ofNat 32 k, 0#32⟩) = true := by
  cases dir <;> cases size <;> decide +kernel

/-- An address is one of the four bytes of its word. -/
theorem exists_eq_wordAddr_or (a : Word) : ∃ k < 4, a = wordAddr a ||| BitVec.ofNat 32 k := by
  refine ⟨(a &&& 3#32).toNat, ?_, ?_⟩
  · rw [BitVec.toNat_and]
    exact Nat.lt_succ_of_le Nat.and_le_right
  · rw [BitVec.ofNat_toNat, BitVec.setWidth_eq, wordAddr, ← BitVec.and_or_distrib_left]
    exact (BitVec.and_allOnes (x := a)).symm

/-- Every access that the map allows has a row. -/
theorem exists_row_of_mapAllows {a : Access} (h : mapAllows a.size a.addr = true) : ∃ r ∈ opcodeTable, r.selects a = true := by
  obtain ⟨k, hk, haddr⟩ := exists_eq_wordAddr_or a.addr
  have hlisted : isListed a.addr = true := by
    rw [mapAllows_access, Bool.and_eq_true] at h
    exact h.1
  obtain ⟨e, he, hword⟩ := List.any_eq_true.mp hlisted
  rw [← eq_of_beq hword] at haddr
  have hrow := List.all_eq_true.mp (List.all_eq_true.mp (row_of_register a.dir a.size) e he) k (List.mem_range.mpr hk)
  rw [← haddr, h] at hrow
  exact List.any_eq_true.mp hrow

/-! ## Decoding an access -/

/-- The row that is found is one of the table's, and selects the access. -/
theorem row_of_find {r : Row} {a : Access} (h : (opcodeTable.find? fun r => r.selects a) = some r) :
    r ∈ opcodeTable ∧ r.selects a = true :=
  ⟨List.mem_of_find?_eq_some h, List.find?_some (p := fun r : Row => r.selects a) h⟩

/-- A row that selects an access is one that the map allows. -/
theorem mapAllows_of_selects {r : Row} {a : Access} (hr : r ∈ opcodeTable) (h : r.selects a = true) :
    mapAllows a.size a.addr = true := by
  obtain ⟨-, hsize, haddr⟩ := selects_iff.mp h
  rw [← hsize, ← haddr]
  exact mapAllows_of_mem r hr

/-- A well-formed access decodes to the operation that it is. -/
theorem decodeRow_of_wellFormed {a : Access} (h : a.wellFormed = true) : ∃ i, decodeRow a = .ok i ∧ i.access = a := by
  obtain ⟨hmap, hdata⟩ := wellFormed_iff.mp h
  obtain ⟨r, hfind⟩ := Option.isSome_iff_exists.mp
    (List.find?_isSome (p := fun r : Row => r.selects a).mpr (exists_row_of_mapAllows hmap))
  obtain ⟨hmem, hsel⟩ := row_of_find hfind
  refine ⟨r.make a.priv a.data, by simp only [decodeRow, hfind, hdata, if_true], ?_⟩
  obtain ⟨hdir, hsize, haddr⟩ := selects_iff.mp hsel
  obtain ⟨hfits, hread⟩ := Bool.and_eq_true_iff.mp hdata
  rw [access_make hmem, hdir, hsize, haddr, carriedData_eq hfits hread]

/-- What decodes to an operation is well formed. -/
theorem wellFormed_of_decodeRow {a : Access} {i : Instr} (h : decodeRow a = .ok i) : a.wellFormed = true := by
  unfold decodeRow at h
  split at h
  next r hfind =>
    split at h
    next hdata =>
      obtain ⟨hmem, hsel⟩ := row_of_find hfind
      exact wellFormed_iff.mpr ⟨mapAllows_of_selects hmem hsel, hdata⟩
    next => cases h
  next => split at h <;> cases h

/-- An access that the map does not allow is refused by name (R72, R75). -/
theorem decodeRow_of_not_mapAllows {a : Access} (h : mapAllows a.size a.addr = false) :
    decodeRow a = .error (if isListed a.addr then .unsupportedAccess else .notScbOperation) := by
  have hfind : (opcodeTable.find? fun r => r.selects a) = none :=
    List.find?_eq_none.mpr fun r hr hsel => Bool.false_ne_true (h.symm.trans (mapAllows_of_selects hr hsel))
  simp only [decodeRow, hfind]
  split <;> rfl

/-- The bytes of an access decode as the access does. -/
theorem decode_encodeAccess (a : Access) : decode (encodeAccess a) = decodeRow a := by
  simp only [decode, decodeAccess_encodeAccess]

/-- Settles O4: every row is an access that the map allows, every allowed access has its row, and the row's operation keeps all of it. -/
theorem tableHoldsExactlyTheAllowedAccesses : Obligations.TableHoldsExactlyTheAllowedAccesses := by
  intro a
  exact ⟨fun ⟨_, hdecode, _⟩ => wellFormed_of_decodeRow hdecode, decodeRow_of_wellFormed⟩

end Sys2Proof

/-! A step of the machine: which access or event it serves, at which state, and where the instruction at the PC is refused (R80, R85, R264). -/

namespace Sys2Proof.Machine

/-! ## The state at which the head of the schedule is served -/

/-- Outside lock-up the head is served with the AUXFAULT inputs latched (R264). -/
theorem latchAuxfault_afterFetch {s : State} {x : Stimulus} {rest : List Stimulus} (hlock : s.lockedUp = false)
    (hsched : s.schedule = x :: rest) :
    latchAuxfault (afterFetch s) = { s with schedule := rest, afsr := s.afsr ||| s.auxfault } := by
  simp [latchAuxfault, afterFetch, hlock, hsched]

/-- Only a change of the AUXFAULT inputs comes before the latch (R263). -/
theorem latchBefore_of_ne {e : Event} (he : ∀ level, e ≠ .auxfault level) (s : State) : latchBefore e s = latchAuxfault s := by
  unfold latchBefore
  split
  next level => exact absurd rfl (he level)
  next => rfl

/-! ## The step of an access -/

/-- The step that serves an access. -/
theorem step_access {s : State} {bytes : List Byte} {rest : List Stimulus} (hsched : s.schedule = .access bytes :: rest) :
    step s = stepAccess bytes (latchAuxfault (afterFetch s)) := by
  simp [step, hsched]

/-- A running processor performs the operation that the bytes decode to, if the instruction at the PC is not in the block. -/
theorem stepAccess_of_decode_ok {s : State} {bytes : List Byte} {i : Instr} (hlock : s.lockedUp = false) (hpower : s.power = .running)
    (hdecode : decode bytes = .ok i) : stepAccess bytes s = refuseAtPc s (exec i s) := by
  simp [stepAccess, hlock, hpower, hdecode]

/-- It refuses by name bytes that are no operation. -/
theorem stepAccess_of_decode_error {s : State} {bytes : List Byte} {e : DecodeError} (hlock : s.lockedUp = false)
    (hpower : s.power = .running) (hdecode : decode bytes = .error e) :
    stepAccess bytes s = refuseAtPc s (.refused (refusalOf e)) := by
  simp [stepAccess, hlock, hpower, hdecode]

/-- The step that serves the bytes of an operation. -/
theorem step_of_decode_ok {s : State} {bytes : List Byte} {rest : List Stimulus} {i : Instr} (hlock : s.lockedUp = false)
    (hpower : s.power = .running) (hsched : s.schedule = .access bytes :: rest) (hdecode : decode bytes = .ok i) :
    step s = refuseAtPc s (exec i { s with schedule := rest, afsr := s.afsr ||| s.auxfault }) := by
  rw [step_access hsched, latchAuxfault_afterFetch hlock hsched]
  exact stepAccess_of_decode_ok hlock hpower hdecode

/-- The step that serves bytes that are no operation. -/
theorem step_of_decode_error {s : State} {bytes : List Byte} {rest : List Stimulus} {e : DecodeError} (hlock : s.lockedUp = false)
    (hpower : s.power = .running) (hsched : s.schedule = .access bytes :: rest) (hdecode : decode bytes = .error e) :
    step s = refuseAtPc s (.refused (refusalOf e)) := by
  rw [step_access hsched, latchAuxfault_afterFetch hlock hsched]
  exact stepAccess_of_decode_error hlock hpower hdecode

/-- Settles O6: the step decodes, and looks at the PC before it performs. -/
theorem stepRunsTheDecodedOperation : Obligations.StepRunsTheDecodedOperation := by
  intro s bytes rest i hlock hpower hsched hdecode
  rw [step_of_decode_ok hlock hpower hsched hdecode]
  exact ⟨refuseAtPc_outside _, fun k hk hlisted => refuseAtPc_inside _ hk hlisted⟩

/-- Settles O5: the decoder refuses what the map does not allow, by the name that the map gives it, and the step passes that name on. -/
theorem stepRefusesAccessesOutsideTheMap : Obligations.StepRefusesAccessesOutsideTheMap := by
  intro s a rest hlock hpower hpc hsched
  have refused (hmap : mapAllows a.size a.addr = false) :
      step s = .refused (refusalOf (if isListed a.addr then .unsupportedAccess else .notScbOperation)) := by
    rw [step_of_decode_error hlock hpower hsched ((decode_encodeAccess a).trans (decodeRow_of_not_mapAllows hmap))]
    exact refuseAtPc_outside _ hpc
  refine ⟨fun hlisted => ?_, fun hlisted hform => ?_⟩
  · have hmap : mapAllows a.size a.addr = false := by rw [mapAllows_access, hlisted, Bool.false_and]
    simpa [hlisted, refusalOf] using refused hmap
  · have hmap : mapAllows a.size a.addr = false := by rw [mapAllows_access, hform, Bool.and_false]
    simpa [hlisted, refusalOf] using refused hmap

/-! ## The step of an event -/

/-- What is served is performed; of the instruction at the PC only if that instruction is not in the block (R85). -/
theorem stepEvent_of_not_lockedUp {s : State} {e : Event} (hlock : s.lockedUp = false)
    (hpower : s.power = .running ∨ isCoreInstruction e = false) :
    stepEvent e s = if kindOf e = .execution then refuseAtPc s (performEvent e s) else performEvent e s := by
  have awake : ¬ (s.power ≠ .running ∧ isCoreInstruction e = true) := by
    rintro ⟨hasleep, hcore⟩
    rcases hpower with hrun | hnot
    · exact hasleep hrun
    · exact Bool.false_ne_true (hnot.symm.trans hcore)
  simp only [stepEvent, hlock, Bool.false_eq_true, if_false, if_neg awake]

/-- An event that is not the instruction at the PC's, or whose instruction lies outside the block, is performed. -/
theorem stepEvent_outside {s : State} {e : Event} (hlock : s.lockedUp = false)
    (hpower : s.power = .running ∨ isCoreInstruction e = false) (hpc : kindOf e ≠ .execution ∨ OutsideBlock s.pc 4) :
    stepEvent e s = performEvent e s := by
  rw [stepEvent_of_not_lockedUp hlock hpower]
  split
  next hkind => exact refuseAtPc_outside _ (hpc.resolve_left fun hne => hne hkind)
  next => rfl

/-- An event of an instruction in the block is refused. -/
theorem stepEvent_inside {s : State} {e : Event} (hlock : s.lockedUp = false)
    (hpower : s.power = .running ∨ isCoreInstruction e = false) (hkind : kindOf e = .execution) {k : Nat} (hk : k < 4)
    (hlisted : isListed (s.pc + BitVec.ofNat 32 k) = true) : stepEvent e s = .refused .fetchFromScb := by
  rw [stepEvent_of_not_lockedUp hlock hpower, if_pos hkind]
  exact refuseAtPc_inside _ hk hlisted

/-- The state at which a step serves an event other than a change of the AUXFAULT inputs. -/
theorem step_event_latched {s : State} {e : Event} {rest : List Stimulus} (hlock : s.lockedUp = false)
    (hsched : s.schedule = .event e :: rest) (he : ∀ level, e ≠ .auxfault level) :
    step s = stepEvent e { s with schedule := rest, afsr := s.afsr ||| s.auxfault } := by
  rw [step_event hsched, latchBefore_of_ne he, latchAuxfault_afterFetch hlock hsched]

/-- Settles O7: the step serves the event at the state with the head taken, and looks at the PC before an instruction. -/
theorem stepPerformsTheEvent : Obligations.StepPerformsTheEvent := by
  intro s e rest hlock hpower hsched
  refine ⟨fun he hpc => ?_, ?_, fun hkind k hk hlisted => ?_⟩
  · rw [step_event_latched hlock hsched he]
    exact stepEvent_outside hlock hpower hpc
  · rintro level rfl
    have taken : afterFetch s = { s with schedule := rest } := by simp [afterFetch, hsched]
    rw [step_event hsched, ← taken]
    exact stepEvent_outside hlock hpower (.inl nofun)
  · have he : ∀ level, e ≠ .auxfault level := by
      rintro level rfl
      cases hkind
    rw [step_event_latched hlock hsched he]
    exact stepEvent_inside hlock hpower hkind hk hlisted

end Sys2Proof.Machine

/-! Every operation as an access with its privilege: what an unprivileged one does, and that a privileged read changes nothing (R77, R79). -/

namespace Sys2Proof.Machine

/-! ## The shape of an operation -/

/-- Every operation but RD.ICSR, whose read draws, is a read of a value or a write by a rule, with its own privilege and at its own address. -/
theorem exec_shape (i : Instr) :
    (∃ p, i = .rdIcsr p) ∨
    ((∀ p, i ≠ .rdIcsr p) ∧ i.access.dir = .read ∧ ∃ value, ∀ s, exec i s = readAccess i.priv i.access.addr value s) ∨
    (i.access.dir = .write ∧ ∃ rule, ∀ s, exec i s = writeAccess i.priv i.access.addr rule s) := by
  cases i with
  | rdIcsr p => exact .inl ⟨p, rfl⟩
  | rdActlr | rdCpuid | rdVtor | rdAircr | rdScr | rdCcr | rdShpr1 | rdShpr2 | rdShpr3 | rdShcsr | rdCfsr | rdHfsr | rdMmfar | rdBfar
  | rdAfsr | rdbPri4 | rdbPri5 | rdbPri6 | rdbShpr1B3 | rdhShpr1Lo | rdhShpr1Hi | rdbShpr2B0 | rdbShpr2B1 | rdbShpr2B2 | rdbPri11
  | rdhShpr2Lo | rdhShpr2Hi | rdbShpr3B0 | rdbShpr3B1 | rdbPri14 | rdbPri15 | rdhShpr3Lo | rdhShpr3Hi | rdbMmfsr | rdbBfsr
  | rdbUfsrLo | rdbUfsrHi | rdhCfsrLo | rdhUfsr => exact .inr (.inl ⟨nofun, rfl, _, fun _ => rfl⟩)
  | wrActlr | wrCpuid | wrIcsr | wrVtor | wrAircr | wrScr | wrCcr | wrShpr1 | wrShpr2 | wrShpr3 | wrShcsr | wrCfsr | wrHfsr | wrMmfar
  | wrBfar | wrAfsr | wrbPri4 | wrbPri5 | wrbPri6 | wrbShpr1B3 | wrhShpr1Lo | wrhShpr1Hi | wrbShpr2B0 | wrbShpr2B1 | wrbShpr2B2
  | wrbPri11 | wrhShpr2Lo | wrhShpr2Hi | wrbShpr3B0 | wrbShpr3B1 | wrbPri14 | wrbPri15 | wrhShpr3Lo | wrhShpr3Hi | wrbMmfsr | wrbBfsr
  | wrbUfsrLo | wrbUfsrHi | wrhCfsrLo | wrhUfsr => exact .inr (.inr ⟨rfl, _, fun _ => rfl⟩)

/-! ## Unprivileged accesses -/

/-- An unprivileged operation is the fault of its access, whichever it is (R79). -/
theorem exec_unprivileged {i : Instr} (h : i.priv = false) (s : State) :
    exec i s = unprivilegedAccess (decide (i.access.dir = .read)) i.access.addr s := by
  rcases exec_shape i with ⟨p, rfl⟩ | ⟨-, hdir, value, hexec⟩ | ⟨hdir, rule, hexec⟩
  · cases h; rfl
  · rw [hexec, h, hdir, readAccess_unprivileged]; rfl
  · rw [hexec, h, hdir, writeAccess_unprivileged]; rfl

/-- Outside lock-up and the handlers of priority −1 and −2 a precise bus error sets PRECISERR and records its address (R243, R261). -/
theorem preciseBusError_records (load : Bool) (a : Word) {s : State} (hlock : s.lockedUp = false) (hprio : -1 < currentPriority s) :
    (preciseBusError load a s).cfsr.preciserr = true ∧ (preciseBusError load a s).cfsr.bfarvalid = true ∧
      (preciseBusError load a s).bfar = a := by
  have reported : preciseBusError load a s = reportFault .preciserr (.known a) s :=
    if_neg fun hignored => absurd hignored.1 (by omega)
  obtain ⟨haddr, hvalid⟩ := recordFault_bus (c := .preciserr) rfl a s
  have kept := sameRecord_reportFault .preciserr (.known a) s hlock
  rw [reported]
  exact ⟨reportFault_flag (c := .preciserr) s hlock, kept.bfarvalid.trans hvalid, kept.bfar.trans haddr⟩

/-- What the last access returned has no priority. -/
theorem currentPriority_readData (s : State) (d : Option ReadData) : currentPriority { s with readData := d } = currentPriority s := rfl

/-- Settles O16: the operation is the precise bus error of its address, which the exception logic handles. -/
theorem unprivilegedAccessFaults : Obligations.UnprivilegedAccessFaults := by
  intro i s hpriv
  have evolved := evolves_preciseBusError (decide (i.access.dir = .read)) i.access.addr { s with readData := none }
  refine ⟨_, exec_unprivileged hpriv s, rfl, evolved.rest.readData, ?_, evolved.rest.afsr, evolved.rest.seen, evolved.flags,
    evolved.forced, evolved.vecttbl, evolved.debugVt, evolved.pending, evolved.active, fun hlock hprio => ?_⟩
  · exact SameConfig.trans (t := { s with readData := none }) (by constructor <;> rfl) evolved.config
  · rw [← currentPriority_readData s none] at hprio
    exact preciseBusError_records (s := { s with readData := none }) _ _ hlock hprio

/-! ## Privileged reads -/

/-- Settles O17: a read returns a value of the state it leaves; only RD.ICSR draws. -/
theorem readsChangeNothing : Obligations.ReadsChangeNothing := by
  intro i s hpriv hread
  rcases exec_shape i with ⟨p, rfl⟩ | ⟨hne, -, value, hexec⟩ | ⟨hwrite, -⟩
  · cases hpriv
    exact ⟨.word (icsrValue s), rfl⟩
  · refine ⟨value s, ?_⟩
    rw [hexec, hpriv, readAccess_privileged, if_neg (hne true)]
    rfl
  · cases hread.symm.trans hwrite

/-! ## Reading what was written -/

/-- A bit of a word, placed back in its position, is the word in that position. -/
theorem bitAt_getLsbD (v : Word) {k : Nat} (hk : k < 32) : bitAt (v.getLsbD k) k = v &&& (1#32 <<< k) := by
  apply BitVec.eq_of_getLsbD_eq
  intro i hi
  by_cases hik : k = i
  · subst hik; simp [hk]
  · simp [hik, hi]
    omega

/-- A field of a word, placed back in its position, is the word in the field's positions. -/
theorem fieldAt_extractLsb' (v : Word) (k w : Nat) : fieldAt (v.extractLsb' k w) k = v &&& fieldAt (BitVec.allOnes w) k := by
  apply BitVec.eq_of_getLsbD_eq
  intro i hi
  by_cases hki : k ≤ i
  · simp [hi, hki, Bool.and_comm]
  · simp [hki]

/-- After a write of `v` by the rule the register reads `v` in the positions of `mask`, and 0 in all others. -/
def ReadsBack (rule : Word → State → Result) (value : State → Word) (mask : Word) : Prop :=
  ∀ v s t, rule v s = .next t → value t = v &&& mask

/-- The read that follows such a write answers what it stored. -/
theorem ReadsBack.answers {rule : Word → State → Result} {value : State → Word} {mask v : Word} {s t : State}
    (h : ReadsBack rule value mask) (hwrite : rule v s = .next t) :
    Answers (.next { t with readData := some (.word (value t)) }) t (.word (v &&& mask)) :=
  answers_of_value (h v s t hwrite)

theorem writeActlr_readsBack : ReadsBack writeActlr actlrValue 0x00000307#32 := by
  intro v s t h
  cases guardReserved_next h
  simp only [actlrValue, bitAt_getLsbD, Nat.reduceLT, ← BitVec.and_or_distrib_left]
  rfl

theorem writeVtor_readsBack : ReadsBack writeVtor vtorValue 0x3FFFFE00#32 := by
  intro v s t h
  cases guardReserved_next h
  exact fieldAt_extractLsb' v 9 21

theorem writeScr_readsBack : ReadsBack writeScr scrValue 0x00000016#32 := by
  intro v s t h
  cases guardReserved_next h
  simp only [scrValue, bitAt_getLsbD, Nat.reduceLT, ← BitVec.and_or_distrib_left]
  rfl

theorem writeCcr_readsBack : ReadsBack writeCcr ccrValue 0x0000031B#32 := by
  intro v s t h
  cases guardReserved_next h
  simp only [ccrValue, bitAt_getLsbD, Nat.reduceLT, ← BitVec.and_or_distrib_left]
  rfl

/-- A word access selects every byte of the register (R73). -/
theorem selectsByte_wordMask : selectsByte wordMask 0 = true ∧ selectsByte wordMask 8 = true ∧
    selectsByte wordMask 16 = true ∧ selectsByte wordMask 24 = true := by decide

theorem writeShpr1_readsBack : ReadsBack (writeShpr1 · wordMask) shpr1Value 0x00F0F0F0#32 := by
  intro v s t h
  cases guardReserved_next h
  simp only [shpr1Value, selectsByte_wordMask, if_true, fieldAt_extractLsb', ← BitVec.and_or_distrib_left]
  rfl

theorem writeShpr2_readsBack : ReadsBack (writeShpr2 · wordMask) shpr2Value 0xF0000000#32 := by
  intro v s t h
  cases guardReserved_next h
  exact fieldAt_extractLsb' v 28 4

theorem writeShpr3_readsBack : ReadsBack (writeShpr3 · wordMask) shpr3Value 0xF0F00000#32 := by
  intro v s t h
  cases guardReserved_next h
  simp only [shpr3Value, selectsByte_wordMask, if_true, fieldAt_extractLsb', ← BitVec.and_or_distrib_left]
  rfl

/-- The pended bits of a written SHCSR word are the pending state of their exceptions (R213). -/
theorem isPending_shcsrPended (v : Word) (s : State) :
    (shcsrPended v s).isPending excSvCall = v.getLsbD 15 ∧ (shcsrPended v s).isPending excBusFault = v.getLsbD 14 ∧
      (shcsrPended v s).isPending excMemManage = v.getLsbD 13 ∧ (shcsrPended v s).isPending excUsageFault = v.getLsbD 12 := by
  simp [shcsrPended, excSvCall, excBusFault, excMemManage, excUsageFault]

/-- The active bits are their active state (R214). -/
theorem isActive_shcsrActive (v : Word) (s : State) :
    (shcsrActive v s).isActive excSysTick = v.getLsbD 11 ∧ (shcsrActive v s).isActive excPendSv = v.getLsbD 10 ∧
      (shcsrActive v s).isActive excDebugMonitor = v.getLsbD 8 ∧ (shcsrActive v s).isActive excSvCall = v.getLsbD 7 ∧
      (shcsrActive v s).isActive excUsageFault = v.getLsbD 3 ∧ (shcsrActive v s).isActive excBusFault = v.getLsbD 1 ∧
      (shcsrActive v s).isActive excMemManage = v.getLsbD 0 := by
  simp [shcsrActive, excSysTick, excPendSv, excDebugMonitor, excSvCall, excUsageFault, excBusFault, excMemManage]

/-- The active bits leave the pending states and the enables, and the pended bits leave the enables. -/
theorem isPending_shcsrActive (v : Word) (s : State) (n : Nat) :
    (shcsrActive v s).isPending n = s.isPending n := by simp [shcsrActive]
theorem shcsrActive_ena (v : Word) (s : State) : (shcsrActive v s).ena = s.ena := by simp [shcsrActive]
theorem shcsrPended_ena (v : Word) (s : State) : (shcsrPended v s).ena = s.ena := by simp [shcsrPended]

theorem writeShcsr_readsBack : ReadsBack writeShcsr shcsrValue 0x0007FD8B#32 := by
  intro v s t h
  cases guardReserved_next h
  simp only [shcsrValue, isPending_shcsrActive, isPending_shcsrPended, isActive_shcsrActive, shcsrActive_ena, shcsrPended_ena,
    bitAt_getLsbD, Nat.reduceLT, ← BitVec.and_or_distrib_left]
  rfl

/-- Settles O36: every stored position of the eight registers takes the bit written, and only those positions are read. -/
theorem readAfterWriteReturnsTheWrittenBits : Obligations.ReadAfterWriteReturnsTheWrittenBits := by
  intro s t v
  exact ⟨writeActlr_readsBack.answers, writeVtor_readsBack.answers, writeScr_readsBack.answers, writeCcr_readsBack.answers,
    writeShpr1_readsBack.answers, writeShpr2_readsBack.answers, writeShpr3_readsBack.answers, writeShcsr_readsBack.answers⟩

end Sys2Proof.Machine

/-! The bytes of an operation and back (R100 to R102, log 2): every operation has its own row of the table, so nothing of it is lost. -/

namespace Sys2Proof

/-! ## The row of an operation -/

/-- What of the descriptor selects a row: two rows never agree on all of it (R101, R110). -/
theorem nodup_selectors : (opcodeTable.map fun r => (r.dir, r.size, r.addr)).Nodup := by decide +kernel

/-- At most one row of the table selects an access. -/
theorem row_unique {r r' : Row} {a : Access} (hr : r ∈ opcodeTable) (hr' : r' ∈ opcodeTable) (h : r.selects a = true)
    (h' : r'.selects a = true) : r = r' := by
  obtain ⟨hdir, hsize, haddr⟩ := selects_iff.mp h
  obtain ⟨hdir', hsize', haddr'⟩ := selects_iff.mp h'
  refine List.inj_on_of_nodup_map nodup_selectors hr hr' ?_
  rw [hdir, hsize, haddr, hdir', hsize', haddr']

/-- The rows stand in the order of the operations, and a row makes its operation of the privilege and the data of that operation's access:
a byte or a halfword that was widened for the access is cut back to itself. -/
theorem getElem?_opcodeTable_ctorIdx (i : Instr) :
    (opcodeTable[i.ctorIdx]?).map (fun r => r.make i.access.priv i.access.data) = some i := by
  cases i <;> refine congrArg some ?_ <;> simp [Instr.access]

/-- The data that an operation keeps are as R100 says. -/
theorem dataLegal_of_eq_carriedData {a : Access} {d : Word} (h : a.data = carriedData a.dir a.size d) :
    (a.dataFits && a.readCarriesNone) = true := by
  obtain ⟨p, dir, size, addr, data⟩ := a
  obtain rfl : data = carriedData dir size d := h
  have setWidth_fits {n : Nat} (v : BitVec n) : (v.setWidth 32).toNat < 2 ^ n :=
    Nat.lt_of_le_of_lt (v.toNat_setWidth 32 ▸ Nat.mod_le ..) v.isLt
  cases dir with
  | read => cases size <;> rfl
  | write =>
    refine Bool.and_eq_true_iff.mpr ⟨decide_eq_true ?_, rfl⟩
    cases size with
    | byte => exact setWidth_fits (d.setWidth 8)
    | half => exact setWidth_fits (d.setWidth 16)
    | word => exact d.isLt

/-- Every operation has a row that selects its access and makes the operation of it, and the data of its access are as R100 says. -/
theorem exists_row_of_access (i : Instr) :
    (∃ r ∈ opcodeTable, r.selects i.access = true ∧ r.make i.access.priv i.access.data = i) ∧
      (i.access.dataFits && i.access.readCarriesNone) = true := by
  obtain ⟨r, hget, hmake⟩ := Option.map_eq_some_iff.mp (getElem?_opcodeTable_ctorIdx i)
  have hr := List.mem_of_getElem? hget
  have haccess := access_make hr i.access.priv i.access.data
  rw [hmake] at haccess
  have hsel : r.selects i.access = true := by
    rw [haccess]
    exact selects_iff.mpr ⟨rfl, rfl, rfl⟩
  have hdata : (i.access.dataFits && i.access.readCarriesNone) = true := by
    rw [haccess]
    exact dataLegal_of_eq_carriedData rfl
  exact ⟨⟨r, hr, hsel, hmake⟩, hdata⟩

/-! ## Decoding the access of an operation -/

/-- A row that selects an access is the one that decoding finds. -/
theorem decodeRow_of_selects {r : Row} {a : Access} (hr : r ∈ opcodeTable) (hsel : r.selects a = true)
    (hdata : (a.dataFits && a.readCarriesNone) = true) : decodeRow a = .ok (r.make a.priv a.data) := by
  obtain ⟨r', hfind⟩ := Option.isSome_iff_exists.mp (List.find?_isSome (p := fun r : Row => r.selects a).mpr ⟨r, hr, hsel⟩)
  obtain ⟨hr', hsel'⟩ := row_of_find hfind
  cases row_unique hr hr' hsel hsel'
  simp only [decodeRow, hfind, hdata, if_true]

/-- The access of an operation decodes to the operation. -/
theorem decodeRow_access (i : Instr) : decodeRow i.access = .ok i := by
  obtain ⟨⟨r, hr, hsel, hmake⟩, hdata⟩ := exists_row_of_access i
  rw [decodeRow_of_selects hr hsel hdata, hmake]

/-- An access that decodes to an operation is the access of that operation. -/
theorem access_of_decodeRow {a : Access} {i : Instr} (h : decodeRow a = .ok i) : i.access = a := by
  obtain ⟨j, hj, haccess⟩ := decodeRow_of_wellFormed (wellFormed_of_decodeRow h)
  cases hj.symm.trans h
  exact haccess

/-! ## Decoding the bytes of an operation -/

/-- Settles O1: the bytes give the access back, and the access finds the operation's own row. -/
theorem encodedOperationDecodesToItself : Obligations.EncodedOperationDecodesToItself := by
  intro i
  exact (decode_encodeAccess i.access).trans (decodeRow_access i)

/-- Settles O2: bytes are those of the access that they decode to, and that access is the operation's. -/
theorem decodedBytesAreTheEncoding : Obligations.DecodedBytesAreTheEncoding := by
  intro bytes i h
  unfold decode at h
  split at h
  next => cases h
  next a hbytes => rw [encode, access_of_decodeRow h, encodeAccess_decodeAccess hbytes]

/-- What is the encoding of an operation decodes to it. -/
theorem decode_of_encode_eq {i : Instr} {bytes : List Byte} (h : encode i = bytes) : decode bytes = .ok i :=
  h ▸ encodedOperationDecodesToItself i

/-- Settles O3: each of the five is the encoding of the operation that it stands for. -/
theorem writtenOutBytesDecode : Obligations.WrittenOutBytesDecode := by
  refine ⟨?rdCcr, ?wrAircr, ?wrbPri5, ?rdhUfsr, ?wrhCfsrLo⟩ <;> exact decode_of_encode_eq (by decide)

end Sys2Proof

/-! ACTLR, CPUID and the other configuration registers: their reads bit by bit, their writes, and what the disable bits of ACTLR do (R120 to R128). -/

namespace Sys2Proof.Machine

/-! ## The bits of a word put together from fields (R103, R104) -/

theorem bitsAre_bitAt (b : Bool) (k : Nat) : BitsAre (bitAt b k) [(k, b)] := by
  intro i hi
  rw [getLsbD_bitAt]
  by_cases hk : k = i <;> simp [hk, hi]

theorem bitsAre_fieldAt {w : Nat} (v : BitVec w) (lo : Nat) : BitsAre (fieldAt v lo) (fieldBits lo v) := by
  intro i hi
  rw [getLsbD_fieldAt, Bool.eq_iff_iff]
  simp only [fieldBits, List.any_map, List.any_eq_true, List.mem_range, Function.comp_apply, Bool.and_eq_true, beq_iff_eq,
    decide_eq_true_eq]
  constructor
  · rintro ⟨⟨-, hlo⟩, hbit⟩
    exact ⟨i - lo, BitVec.lt_of_getLsbD hbit, by omega, hbit⟩
  · rintro ⟨k, -, hk, hbit⟩
    have hsub : i - lo = k := by omega
    exact ⟨⟨hi, by omega⟩, hsub ▸ hbit⟩

/-- Two parts put together have the bits of both. -/
theorem BitsAre.or {v w : Word} {l m : List (Nat × Bool)} (hv : BitsAre v l) (hw : BitsAre w m) : BitsAre (v ||| w) (l ++ m) := by
  intro i hi
  rw [BitVec.getLsbD_or, hv i hi, hw i hi, List.any_append]

/-! ## Reads of the configuration -/

theorem bitsAre_actlrValue (s : State) :
    BitsAre (actlrValue s)
      [(9, s.actlr.disoofp), (8, s.actlr.disfpca), (2, s.actlr.disfold), (1, s.actlr.disdefwbuf), (0, s.actlr.dismcycint)] :=
  ((((bitsAre_bitAt _ 9).or (bitsAre_bitAt _ 8)).or (bitsAre_bitAt _ 2)).or (bitsAre_bitAt _ 1)).or (bitsAre_bitAt _ 0)

theorem bitsAre_vtorValue (s : State) : BitsAre (vtorValue s) (fieldBits 9 s.tbloff) := bitsAre_fieldAt _ 9

theorem bitsAre_aircrValue (s : State) : BitsAre (aircrValue s) (fieldBits 16 0xFA05#16 ++ fieldBits 8 s.prigroup) :=
  (bitsAre_fieldAt Config.aircrReadKey 16).or (bitsAre_fieldAt _ 8)

theorem bitsAre_scrValue (s : State) :
    BitsAre (scrValue s) [(4, s.scr.sevonpend), (2, s.scr.sleepdeep), (1, s.scr.sleeponexit)] :=
  ((bitsAre_bitAt _ 4).or (bitsAre_bitAt _ 2)).or (bitsAre_bitAt _ 1)

theorem bitsAre_ccrValue (s : State) :
    BitsAre (ccrValue s) [(9, s.ccr.stkalign), (8, s.ccr.bfhfnmign), (4, s.ccr.div0Trp), (3, s.ccr.unalignTrp),
      (1, s.ccr.usersetmpend), (0, s.ccr.nonbasethrdena)] :=
  (((((bitsAre_bitAt _ 9).or (bitsAre_bitAt _ 8)).or (bitsAre_bitAt _ 4)).or (bitsAre_bitAt _ 3)).or (bitsAre_bitAt _ 1)).or
    (bitsAre_bitAt _ 0)

/-- Settles O18: each read returns its register's value, whose bits are the register's fields. -/
theorem configurationReadsReturnTheFields : Obligations.ConfigurationReadsReturnTheFields := by
  intro s
  exact
    ⟨⟨_, ⟨_, rfl, rfl⟩, bitsAre_actlrValue s, rfl⟩, ⟨⟨_, rfl, rfl⟩, rfl⟩, ⟨_, ⟨_, rfl, rfl⟩, bitsAre_vtorValue s, rfl⟩,
      ⟨_, ⟨_, rfl, rfl⟩, bitsAre_aircrValue s, rfl⟩, ⟨_, ⟨_, rfl, rfl⟩, bitsAre_scrValue s, rfl⟩,
      ⟨_, ⟨_, rfl, rfl⟩, bitsAre_ccrValue s, rfl⟩⟩

/-! ## Writes of the configuration -/

/-- A guarded rule that does not look at the data of the last access, as a write of the block performs it. -/
theorem guardReserved_write_performs (r v : Word) {f : State → State} {s : State}
    (hf : f { s with readData := none } = { f s with readData := none }) :
    PerformsUnlessReserved (guardReserved r v (fun t => .next (f t)) { s with readData := none }) s v r (f s) := by
  have stored : guardReserved r v (fun t => .next (f t)) { s with readData := none } =
      guardReserved r v (fun t => .next { f t with readData := none }) s := by simp only [guardReserved, hf]
  rw [stored]
  exact guardReserved_performs r v f s

/-- Settles O26: the four guarded rules store their fields, and the rule of CPUID does nothing. -/
theorem configurationWritesStoreTheFields : Obligations.ConfigurationWritesStoreTheFields := by
  intro s v
  exact
    ⟨guardReserved_write_performs (f := fun t : State => { t with
        actlr := ⟨v.getLsbD 9, v.getLsbD 8, v.getLsbD 2, v.getLsbD 1, v.getLsbD 0⟩ }) _ v rfl,
      guardReserved_write_performs (f := fun t : State => { t with tbloff := v.extractLsb' 9 21 }) _ v rfl,
      guardReserved_write_performs (f := fun t : State => { t with scr := ⟨v.getLsbD 4, v.getLsbD 2, v.getLsbD 1⟩ }) _ v rfl,
      guardReserved_write_performs (f := fun t : State => { t with
        ccr := ⟨v.getLsbD 9, v.getLsbD 8, v.getLsbD 4, v.getLsbD 3, v.getLsbD 1, v.getLsbD 0⟩ }) _ v rfl,
      rfl, rfl⟩

/-! ## DISMCYCINT -/

/-- Inside a load or store multiple DISMCYCINT holds every exception back (R126). -/
theorem eventTakeException_held {s : State} (h : s.actlr.dismcycint = true) (next : Word) :
    eventTakeException true next s = s := by
  simp [eventTakeException, h]

/-- Without DISMCYCINT it makes no difference whether the processor is inside one. -/
theorem eventTakeException_of_not_dismcycint {s : State} (h : s.actlr.dismcycint = false) (m : Bool) (next : Word) :
    eventTakeException m next s = eventTakeException false next s := by
  simp [eventTakeException, h]

/-- Settles O49: the event is `eventTakeException`, which looks at DISMCYCINT first. -/
theorem dismcycintHoldsExceptionsBack : Obligations.DismcycintHoldsExceptionsBack := by
  intro s next
  exact ⟨fun hset => congrArg Host.Outcome.next (eventTakeException_held hset next),
    fun hclear => congrArg Host.Outcome.next (eventTakeException_of_not_dismcycint hclear true next)⟩

end Sys2Proof.Machine

/-! The flags that the exception logic leaves: a report sets the flag of its cause, an entry those of stacking errors, and nothing else
(R240, R247, R302). So with the write buffer disabled no event sets IMPRECISERR (R125). -/

namespace Sys2Proof.Machine

/-! ## The relation -/

/-- The flag of the cause `d` is in `t` what it is in `s`. -/
def SameFlag (d : Cause) (s t : State) : Prop := cfsrHas t.cfsr d = cfsrHas s.cfsr d

namespace SameFlag

theorem refl (d : Cause) (s : State) : SameFlag d s s := rfl

theorem trans {d : Cause} {s t u : State} (h : SameFlag d s t) (k : SameFlag d t u) : SameFlag d s u := Eq.trans k h

/-- An update that leaves CFSR. -/
theorem of_cfsr (d : Cause) {s t : State} (h : t.cfsr = s.cfsr := by rfl) : SameFlag d s t := by rw [SameFlag, h]

end SameFlag

/-! ## The exception logic -/

/-- A record sets the flag of its own cause only (R302). -/
theorem sameFlag_recordFault {c d : Cause} (h : d ≠ c) (a : FaultAddr) (s : State) : SameFlag d s (recordFault c a s) :=
  (recorded_recordFault c a s).others d h

/-- Escalating leaves the flags that the entry leaves. -/
theorem sameFlag_escalateWith {d : Cause} {ent : Nat → State → State} (he : ∀ n s, SameFlag d s (ent n s)) (c : Cause) (s : State) :
    SameFlag d s (escalateWith ent c s) := by
  unfold escalateWith
  split
  · split
    · exact .refl d s
    · exact .of_cfsr d
  · exact (SameFlag.of_cfsr d).trans (he excHardFault _)

/-- So does a report, but for the flag of its cause. -/
theorem sameFlag_reportWith {c d : Cause} {ent : Nat → State → State} (he : ∀ n s, SameFlag d s (ent n s)) (h : d ≠ c) (a : FaultAddr)
    (s : State) : SameFlag d s (reportWith ent c a s) := by
  unfold reportWith
  split
  · exact .refl d s
  · refine (sameFlag_recordFault h a s).trans ?_
    dsimp only
    split
    · exact (SameFlag.of_cfsr d).trans (he (causeClass c) _)
    · exact sameFlag_escalateWith he c _

theorem sameFlag_foldl_report {d : Cause} {ent : Nat → State → State} (he : ∀ n s, SameFlag d s (ent n s))
    (hd : ∀ k, d ≠ stackingCause k) :
    ∀ (ks : List StackError) (s : State), SameFlag d s (ks.foldl (fun t k => reportWith ent (stackingCause k) .none t) s)
  | [], s => .refl d s
  | k :: ks, s => (sameFlag_reportWith he (hd k) .none s).trans (sameFlag_foldl_report he hd ks _)

/-- Stacking leaves CFSR: its errors are reported later (R240, R247). -/
theorem stackState_cfsr (chained : Bool) (errors : List StackError) (s : State) : (stackState chained errors s).cfsr = s.cfsr := by
  have spoiled : ∀ t : State, (spoilFrame t).cfsr = t.cfsr := by
    intro t; unfold spoilFrame; split <;> rfl
  unfold stackState
  split
  · rfl
  · split
    · rfl
    · exact spoiled _

/-- The vector read leaves CFSR: its error is a flag of HFSR (R255). -/
theorem activateOrFail_cfsr (e : EntryErrors) (n : Nat) (s : State) : (activateOrFail e n s).cfsr = s.cfsr := by
  unfold activateOrFail
  split
  · unfold vectorError
    dsimp only
    split
    · rfl
    · split <;> rfl
  · rfl

/-- An entry sets the flags of stacking errors only (R240, R247). -/
theorem sameFlag_enter {d : Cause} (hd : ∀ k, d ≠ stackingCause k) (fuel : Nat) :
    ∀ (chained : Bool) (n : Nat) (s : State), SameFlag d s (enter fuel chained n s) := by
  have clean : ∀ chained n s, SameFlag d s (activate n (stackState chained [] s)) := fun chained n s =>
    .of_cfsr d (stackState_cfsr chained [] s)
  induction fuel with
  | zero => exact clean
  | succ k ih =>
    intro chained n s
    cases he : s.entryErrors with
    | nil => rw [enter_nil he]; exact clean chained n s
    | cons e rest =>
      rw [enter_cons he]
      have stacked : SameFlag d s (stackState chained e.stack { s with entryErrors := rest }) := .of_cfsr d (stackState_cfsr _ _ _)
      exact stacked.trans ((SameFlag.of_cfsr d (activateOrFail_cfsr e n _)).trans (sameFlag_foldl_report (ih false) hd _ _))

theorem sameFlag_takeException {d : Cause} (hd : ∀ k, d ≠ stackingCause k) (n : Nat) (s : State) : SameFlag d s (takeException n s) :=
  sameFlag_enter hd s.entryErrors.length false n s

theorem sameFlag_chainException {d : Cause} (hd : ∀ k, d ≠ stackingCause k) (n : Nat) (s : State) : SameFlag d s (chainException n s) :=
  sameFlag_enter hd s.entryErrors.length true n s

/-- A reported fault sets the flag of its cause, and the entry to its handler those of stacking errors. -/
theorem sameFlag_reportFault {c d : Cause} (hd : ∀ k, d ≠ stackingCause k) (h : d ≠ c) (a : FaultAddr) (s : State) :
    SameFlag d s (reportFault c a s) :=
  sameFlag_reportWith (ent := takeException) (sameFlag_takeException hd) h a s

/-! ## IMPRECISERR -/

/-- IMPRECISERR is not the flag of a stacking error. -/
theorem impreciserr_ne_stackingCause (k : StackError) : Cause.impreciserr ≠ stackingCause k := by cases k <;> nofun

/-- The report of a fault that is not imprecise leaves IMPRECISERR. -/
theorem impreciserr_reportFault {c : Cause} (a : FaultAddr) (s : State) (h : .impreciserr ≠ c := by decide) :
    SameFlag .impreciserr s (reportFault c a s) :=
  sameFlag_reportFault impreciserr_ne_stackingCause h a s

theorem impreciserr_ignoredBusError (a : Word) (s : State) : SameFlag .impreciserr s (ignoredBusError a s) := by
  have recorded : ∀ t, SameFlag .impreciserr t (recordFault .preciserr (.known a) t) := fun t =>
    sameFlag_recordFault (by decide) _ t
  unfold ignoredBusError
  split
  · exact .refl _ s
  · exact recorded s
  · split
    · exact recorded (s.bump 1)
    · exact .of_cfsr _

theorem ignoredLoad_cfsr (load : Bool) (s : State) : (ignoredLoad load s).cfsr = s.cfsr := by cases load <;> rfl

/-- A precise bus error, ignored or reported, leaves IMPRECISERR (R191, R243). -/
theorem impreciserr_preciseBusError (load : Bool) (a : Word) (s : State) : SameFlag .impreciserr s (preciseBusError load a s) := by
  unfold preciseBusError
  split
  · exact (impreciserr_ignoredBusError a s).trans (.of_cfsr _ (ignoredLoad_cfsr load _))
  · exact impreciserr_reportFault _ s

/-- An access to ordinary memory leaves IMPRECISERR if it does so where it does not trap. -/
theorem impreciserr_alignedOrTrap {done s : State} (hd : SameFlag .impreciserr s done) (traps : Bool) (size : Size) (a : Word) :
    SameFlag .impreciserr s (alignedOrTrap traps size a done s) := by
  rcases alignedOrTrap_cases traps size a done s with ⟨-, -, trapped⟩ | ⟨-, performed⟩
  · rw [trapped]; exact impreciserr_reportFault _ s
  · rw [performed]; exact hd

theorem impreciserr_exceptionReturn (toThread valid : Bool) (u : Option StackError) (s : State) :
    SameFlag .impreciserr s (exceptionReturn toThread valid u s) := by
  have illegal : SameFlag .impreciserr s (reportFault .invpc .none s) := impreciserr_reportFault _ s
  unfold exceptionReturn
  split
  · exact illegal
  · split
    · dsimp only
      split
      · exact .of_cfsr _
      next k =>
        have hk : Cause.impreciserr ≠ unstackingCause k := by cases k <;> nofun
        exact sameFlag_reportWith (ent := chainException) (sameFlag_chainException impreciserr_ne_stackingCause) hk .none
          (s.setActive s.ipsr.toNat false)
    · exact illegal

theorem impreciserr_eventTakeException (m : Bool) (next : Word) (s : State) :
    SameFlag .impreciserr s (eventTakeException m next s) := by
  unfold eventTakeException
  split
  · exact .refl _ s
  · split
    · exact .refl _ s
    next n _ => exact sameFlag_takeException impreciserr_ne_stackingCause n { s with pc := next }

/-! ## The events -/

theorem latchAuxfault_cfsr (s : State) : (latchAuxfault s).cfsr = s.cfsr := by unfold latchAuxfault; split <;> rfl

theorem latchBefore_cfsr (e : Event) (s : State) : (latchBefore e s).cfsr = s.cfsr := by
  unfold latchBefore
  split
  · rfl
  · exact latchAuxfault_cfsr s

theorem requestException_cfsr (n : Nat) (s : State) : (requestException n s).cfsr = s.cfsr := by
  unfold requestException; dsimp only; split <;> rfl

theorem eventWfe_cfsr (s : State) : (eventWfe s).cfsr = s.cfsr := by
  unfold eventWfe
  split
  · dsimp only; split <;> rfl
  · rfl

theorem eventAutoFpca_cfsr (v : Bool) (s : State) : (eventAutoFpca v s).cfsr = s.cfsr := by unfold eventAutoFpca; split <;> rfl

theorem eventIrq_cfsr {k : Nat} {s t : State} (h : eventIrq k s = .next t) : t.cfsr = s.cfsr := by
  unfold eventIrq at h
  split at h <;> cases h
  exact requestException_cfsr _ s

theorem eventIrqClear_cfsr {k : Nat} {s t : State} (h : eventIrqClear k s = .next t) : t.cfsr = s.cfsr := by
  unfold eventIrqClear at h
  split at h <;> cases h
  rfl

theorem eventNvic_cfsr {k : Nat} {en : Bool} {p : BitVec 4} {s t : State} (h : eventNvic k en p s = .next t) : t.cfsr = s.cfsr := by
  unfold eventNvic at h
  split at h <;> cases h
  rfl

theorem eventStir_cfsr {priv : Bool} {k : Nat} {s t : State} (h : eventStir priv k s = .next t) : t.cfsr = s.cfsr := by
  unfold eventStir at h
  split at h
  · exact eventIrq_cfsr h
  · cases h

theorem eventCore_cfsr {pc sp : Word} {s t : State} (h : eventCore pc sp s = .next t) : t.cfsr = s.cfsr := by
  unfold eventCore at h
  split at h <;> cases h
  rfl

theorem impreciserr_eventDivideByZero (s : State) : SameFlag .impreciserr s (eventDivideByZero s) := by
  unfold eventDivideByZero
  split
  · exact impreciserr_reportFault _ s
  · exact .of_cfsr _

/-- A store that may be buffered meets no imprecise error: that comes when the buffer drains (R242). -/
theorem impreciserr_bufferOrComplete (a : Word) (fails : Bool) (s : State) : SameFlag .impreciserr s (bufferOrComplete a fails s) := by
  unfold bufferOrComplete
  split
  · split
    · exact impreciserr_preciseBusError false a s
    · exact .refl _ s
  · exact .of_cfsr _

/-- With the write buffer disabled a store that completes has met no error (R125). -/
theorem eventDrain_cfsr {i : Nat} {fails : Bool} {next : Word} {s t : State} (hbuf : s.actlr.disdefwbuf = true)
    (h : eventDrain i fails next s = .next t) : t.cfsr = s.cfsr := by
  unfold eventDrain at h
  split at h
  · cases fails with
    | false => cases h; rfl
    | true => cases h
  · cases h; rfl

/-- What is refused in the block leaves elsewhere the flags that the access leaves. -/
theorem refuseInBlock_sameFlag {d : Cause} {a : Word} {n : Nat} {why : Refusal} {done s t : State} (hd : SameFlag d s done)
    (h : refuseInBlock a n why (.next done) = .next t) : SameFlag d s t := by
  obtain ⟨-, hgo⟩ := refuseInBlock_next h
  cases hgo
  exact hd

/-- With the write buffer disabled every event but reset, which clears it, leaves IMPRECISERR. -/
theorem impreciserr_performEvent {e : Event} {s t : State} (he : e ≠ .reset) (hbuf : s.actlr.disdefwbuf = true)
    (h : performEvent e s = .next t) : SameFlag .impreciserr s t := by
  cases e with
  | reset => exact absurd rfl he
  | auxfault level => cases h; exact .of_cfsr _ (latchAuxfault_cfsr _)
  | nmi | sysTick | svc => cases h; exact .of_cfsr _ (requestException_cfsr _ s)
  | irq => exact .of_cfsr _ (eventIrq_cfsr h)
  | irqClear => exact .of_cfsr _ (eventIrqClear_cfsr h)
  | nvic => exact .of_cfsr _ (eventNvic_cfsr h)
  | stir => exact .of_cfsr _ (eventStir_cfsr h)
  | core => exact .of_cfsr _ (eventCore_cfsr h)
  | autoFpca v => cases h; exact .of_cfsr _ (eventAutoFpca_cfsr v s)
  | wfe => cases h; exact .of_cfsr _ (eventWfe_cfsr s)
  | observe | masks | externalEvent | sev | wfi | prefetchError | entryErrors => cases h; exact .of_cfsr _
  | fetch => exact refuseInBlock_sameFlag (.refl _ s) h
  | divideByZero => cases h; exact impreciserr_eventDivideByZero s
  | coprocessor | undefinedInstr => cases h; exact impreciserr_reportFault _ s
  | illegalEpsr u => cases h; cases u <;> exact impreciserr_reportFault _ s
  | issueError | fetchViolation => exact refuseInBlock_sameFlag (impreciserr_reportFault _ s) h
  | dataAccess | multiAccess => exact refuseInBlock_sameFlag (impreciserr_alignedOrTrap (.refl _ s) _ _ _) h
  | bufferableStore size a fails =>
    exact refuseInBlock_sameFlag (impreciserr_alignedOrTrap (impreciserr_bufferOrComplete a fails s) _ _ _) h
  | busError load size a => exact refuseInBlock_sameFlag (impreciserr_preciseBusError load a s) h
  | dataViolation size a => exact refuseInBlock_sameFlag (impreciserr_reportFault (c := .daccviol) _ (s.bump 1)) h
  | lazyBusError a =>
    exact refuseInBlock_sameFlag ((SameFlag.of_cfsr _).trans (impreciserr_reportFault (c := .lsperr) _ _)) h
  | lazyViolation a =>
    exact refuseInBlock_sameFlag ((SameFlag.of_cfsr _).trans (impreciserr_reportFault (c := .mlsperr) _ _)) h
  | drain => exact .of_cfsr _ (eventDrain_cfsr hbuf h)
  | takeException m next => cases h; exact impreciserr_eventTakeException m next s
  | exceptionReturn th v u => cases h; exact impreciserr_exceptionReturn th v u s

/-- With the write buffer disabled no event that is served sets IMPRECISERR. -/
theorem impreciserr_stepEvent {e : Event} {s t : State} (hbuf : s.actlr.disdefwbuf = true) (h : stepEvent e s = .next t)
    (hset : t.cfsr.impreciserr = true) : s.cfsr.impreciserr = true := by
  by_cases he : e = .reset
  · subst he
    cases (stepEvent_reset s).symm.trans h
    cases hset
  · rcases stepEvent_next h with ⟨-, hreset, -⟩ | ⟨-, -, rfl⟩ | ⟨-, -, -, performed⟩
    · exact absurd hreset he
    · exact hset
    · exact (impreciserr_performEvent he hbuf performed).symm.trans hset

/-! ## A store with the write buffer disabled -/

/-- With the write buffer disabled a store to ordinary memory that does not trap completes, and its error is precise (R125). -/
theorem eventBufferableStore_unbuffered {size : Size} {a : Word} {s : State} (hbuf : s.actlr.disdefwbuf = true)
    (hout : OutsideBlock a size.bytes) (haligned : a.toNat % size.bytes = 0 ∨ s.seen.ccr.unalignTrp = false) (fails : Bool) :
    eventBufferableStore size a fails s = .next (if fails then preciseBusError false a s else s) := by
  have completes : alignedOrTrap s.seen.ccr.unalignTrp size a (bufferOrComplete a fails s) s = bufferOrComplete a fails s := by
    rcases alignedOrTrap_cases s.seen.ccr.unalignTrp size a (bufferOrComplete a fails s) s with ⟨hun, htrap, -⟩ | ⟨-, performed⟩
    · rcases haligned with hal | hoff
      · exact absurd hal hun
      · cases hoff.symm.trans htrap
    · exact performed
  rw [eventBufferableStore, singleOutsideBlock_outside _ hout, completes, bufferOrComplete, if_pos hbuf]

/-- Settles O15: only a failing drain could set IMPRECISERR, and it is refused; a failing store is a precise error at once. -/
theorem noImpreciseErrorWithTheWriteBufferDisabled : Obligations.NoImpreciseErrorWithTheWriteBufferDisabled := by
  intro s
  refine ⟨fun hbuf => ⟨fun e rest t hsched hstep hset => ?_, fun size a hout haligned => ?_⟩, fun size a fails k hk hlisted => ?_⟩
  · rw [step_event hsched] at hstep
    have before := (afterFetch_effect s).trans (latchBefore_effect e _)
    have hset' := impreciserr_stepEvent (before.config.actlr ▸ hbuf) hstep hset
    rwa [latchBefore_cfsr] at hset'
  · exact ⟨eventBufferableStore_unbuffered hbuf hout haligned true, eventBufferableStore_unbuffered hbuf hout haligned false⟩
  · exact singleOutsideBlock_inside _ hk hlisted

end Sys2Proof.Machine

/-! ICSR and AIRCR (R140 to R150, R166 to R173): what their reads return and their writes do, and the split of a priority (R170). -/

namespace Sys2Proof.Machine

/-! ## The guard of the reserved positions -/

/-- Where the guard lets the write through, the rule acts. -/
theorem guardReserved_passes {r v : Word} {s : State} (h : v &&& r = 0#32 ∨ s.params.reservedWrite = .ignore) (rule : State → Result) :
    guardReserved r v rule s = rule s :=
  h.elim (guardReserved_clear · rule s) (guardReserved_ignore rule s)

/-! ## WR.ICSR -/

/-- A trigger bit changes the pending states and nothing else. -/
theorem setPending_if_eq (c : Bool) (s : State) (n : Nat) (b : Bool) :
    (if c then s.setPending n b else s) = { s with pending := if c then s.pending.setIfInBounds n b else s.pending } := by
  cases c <;> rfl

theorem isPending_setPending_if (c : Bool) (s : State) (n m : Nat) (b : Bool) :
    (if c then s.setPending n b else s).isPending m = if c = true ∧ n = m ∧ n < 128 then b else s.isPending m := by
  cases c <;> simp

/-- The trigger bits do not look at the data of the last access, and change the pending states only (R142 to R144). -/
theorem icsrTriggers_readData (v : Word) (s : State) (d : Option ReadData) :
    icsrTriggers v { s with readData := d } = { s with pending := (icsrTriggers v s).pending, readData := d } := by
  simp only [icsrTriggers, setPending_if_eq]

/-- The pending states after the trigger bits: a clear-pending bit acts after its set-pending bit (R142 to R144). -/
theorem isPending_icsrTriggers (v : Word) (s : State) (n : Nat) :
    (icsrTriggers v s).isPending n =
      if n = excNmi then v.getLsbD 31 || s.isPending excNmi
      else if n = excPendSv then !v.getLsbD 27 && (v.getLsbD 28 || s.isPending excPendSv)
      else if n = excSysTick then !v.getLsbD 25 && (v.getLsbD 26 || s.isPending excSysTick)
      else s.isPending n := by
  simp only [icsrTriggers, isPending_setPending_if]
  by_cases h2 : n = excNmi
  · subst h2; simp [excNmi, excPendSv, excSysTick]
  by_cases h14 : n = excPendSv
  · subst h14; simp [excNmi, excPendSv, excSysTick]
  by_cases h15 : n = excSysTick
  · subst h15; simp [excNmi, excPendSv, excSysTick]
  simp [h2, h14, h15, Ne.symm h2, Ne.symm h14, Ne.symm h15]

/-- If WR.ICSR has a next state, the trigger bits gave it (R141). -/
theorem writeIcsr_next {v : Word} {s t : State} (h : writeIcsr v s = .next t) : t = icsrTriggers v s := by
  unfold writeIcsr at h
  split at h
  · cases h
  · have acted := guardReserved_next h
    split at acted
    · cases acted
    · cases acted; rfl

/-- Where no reserved position stands against it, WR.ICSR looks at the trigger bits (R141, R145). -/
theorem writeIcsr_passes {v : Word} {s : State} (h : v &&& 0x61B80600#32 = 0#32 ∨ s.params.reservedWrite = .ignore ∧ v.getLsbD 23 = false) :
    writeIcsr v s = if icsrContradicts v then .refused .unpredictableIcsr else .next (icsrTriggers v s) := by
  have hdebug : v.getLsbD 23 = false := h.elim (getLsbD_of_and_eq_zero · 23 (by decide)) And.right
  rw [writeIcsr, hdebug, if_neg Bool.false_ne_true, guardReserved_passes (h.imp_right And.left)]

/-- A 1 in bit 23 is refused whatever RESERVED_WRITE says (R146). -/
theorem writeIcsr_debug {v : Word} (h : v.getLsbD 23 = true) (s : State) : writeIcsr v s = .refused .reservedBitWritten :=
  if_pos h

/-- A 1 in a reserved position is refused under RESERVED_WRITE = refuse. -/
theorem writeIcsr_reserved {v : Word} {s : State} (h : v &&& 0x61B80600#32 ≠ 0#32) (hp : s.params.reservedWrite = .refuse) :
    writeIcsr v s = .refused .reservedBitWritten := by
  unfold writeIcsr
  split
  · rfl
  · exact guardReserved_refuse h _ s hp

/-- A set-pending bit and its clear-pending bit contradict each other (R145). -/
theorem icsrContradicts_iff {v : Word} :
    icsrContradicts v = true ↔ v.getLsbD 28 = true ∧ v.getLsbD 27 = true ∨ v.getLsbD 26 = true ∧ v.getLsbD 25 = true := by
  simp only [icsrContradicts, Bool.or_eq_true, Bool.and_eq_true]

/-- Of a set-pending and a clear-pending bit that are not both 1 it makes no difference which acts first. -/
theorem clear_after_set {setBit clearBit : Bool} (h : ¬ (setBit = true ∧ clearBit = true)) (p : Bool) :
    (!clearBit && (setBit || p)) = (setBit || (p && !clearBit)) := by
  cases clearBit
  · simp
  · simp [Bool.eq_false_iff.mpr fun hset => h ⟨hset, rfl⟩]

/-- Settles O27: the guards let the write through or refuse it, and what passes are the trigger bits. -/
theorem icsrWriteActsOnThePendingStates : Obligations.IcsrWriteActsOnThePendingStates := by
  intro s v
  have refused (hpass : v &&& 0x61B80600#32 = 0#32 ∨ s.params.reservedWrite = .ignore ∧ v.getLsbD 23 = false)
      (hcontra : icsrContradicts v = true) : exec (.wrIcsr true v) s = .refused .unpredictableIcsr :=
    (writeIcsr_passes (s := { s with readData := none }) hpass).trans (if_pos hcontra)
  refine ⟨fun hpass => ⟨fun ⟨hpendSv, hsysTick⟩ => ?_, fun h => refused hpass (icsrContradicts_iff.mpr (.inl h)),
    fun h => refused hpass (icsrContradicts_iff.mpr (.inr h))⟩, fun hdebug => writeIcsr_debug hdebug _,
    fun hres hp => writeIcsr_reserved hres hp, rfl⟩
  have agree : ¬ icsrContradicts v = true := fun h => (icsrContradicts_iff.mp h).elim hpendSv hsysTick
  refine ⟨(icsrTriggers v s).pending, ?_, fun n => ?_⟩
  · calc exec (.wrIcsr true v) s
      _ = .next (icsrTriggers v { s with readData := none }) :=
        (writeIcsr_passes (s := { s with readData := none }) hpass).trans (if_neg agree)
      _ = _ := by rw [icsrTriggers_readData]
  · have triggered := isPending_icsrTriggers v s n
    rwa [clear_after_set hpendSv, clear_after_set hsysTick] at triggered

/-! ## WR.AIRCR -/

/-- Without the key the write is ignored (R166). -/
theorem writeAircr_unkeyed {v : Word} (h : v.extractLsb' 16 16 ≠ 0x05FA#16) (s : State) : writeAircr v s = .next s :=
  if_neg h

/-- With it the reserved positions are looked at, and then the rest (R166). -/
theorem writeAircr_keyed {v : Word} (h : v.extractLsb' 16 16 = 0x05FA#16) (s : State) :
    writeAircr v s = guardReserved 0x000078F8#32 v (aircrKeyed v) s :=
  if_pos h

/-- A keyed write without VECTCLRACTIVE and VECTRESET stores PRIGROUP and latches the reset request (R167, R172). -/
theorem aircrKeyed_performs {v : Word} (h : v.getLsbD 1 = false ∧ v.getLsbD 0 = false) (s : State) :
    aircrKeyed v s = .next { s with prigroup := v.extractLsb' 8 3, sysresetreq := s.sysresetreq || v.getLsbD 2 } :=
  if_neg (by rw [h.1, h.2]; exact Bool.false_ne_true)

/-- One with either of them is refused (R173). -/
theorem aircrKeyed_refused {v : Word} (h : v.getLsbD 1 = true ∨ v.getLsbD 0 = true) (s : State) :
    aircrKeyed v s = .refused .unpredictableAircr :=
  if_pos (by simpa using h)

/-- Settles O28: the key is looked at first, then the reserved positions, then bits 1 and 0. -/
theorem aircrWriteNeedsTheKey : Obligations.AircrWriteNeedsTheKey := by
  intro s v
  refine ⟨fun hkey => writeAircr_unkeyed hkey _, fun hkey => ?_, rfl⟩
  have guarded : exec (.wrAircr true v) s = guardReserved 0x000078F8#32 v (aircrKeyed v) { s with readData := none } :=
    writeAircr_keyed hkey _
  rw [guarded]
  refine ⟨fun hpass => ?_, fun hres hp => guardReserved_refuse hres _ _ hp⟩
  rw [guardReserved_passes (s := { s with readData := none }) hpass]
  exact ⟨fun h => aircrKeyed_performs h _, fun h => aircrKeyed_refused h _⟩

/-! ## RD.ICSR -/

/-- The order in which the parts of a word are listed makes no difference. -/
theorem BitsAre.perm {v : Word} {l m : List (Nat × Bool)} (h : BitsAre v l) (hlm : l.Perm m) : BitsAre v m :=
  fun i hi => (h i hi).trans (hlm.any_eq)

theorem bitsAre_icsrValue (s : State) :
    BitsAre (icsrValue s)
      ([(31, s.isPending 2), (28, s.isPending 14), (27, Config.drawBit s.drawn), (26, s.isPending 15), (25, Config.drawBit (s.drawn + 1)),
          (22, isrPending s)] ++ fieldBits 12 (vectPending s) ++ [(11, retToBase s (s.drawn + 2))] ++ fieldBits 0 s.ipsr) :=
  ((((((((bitsAre_bitAt _ 31).or (bitsAre_bitAt _ 28)).or (bitsAre_bitAt _ 27)).or (bitsAre_bitAt _ 26)).or (bitsAre_bitAt _ 25)).or
    (bitsAre_bitAt _ 22)).or (bitsAre_fieldAt _ 12)).or (bitsAre_bitAt _ 11)).or (bitsAre_fieldAt _ 0)

/-- An active number is one that the array has. -/
theorem lt_of_isActive {s : State} {n : Nat} (h : s.isActive n = true) : n < 128 := by
  by_contra hge
  cases (isActive_of_ge (Nat.le_of_not_lt hge)).symm.trans h

/-- The executing exception is active, and no other is (R149). -/
theorem onlyExecutingActive_iff (s : State) :
    onlyExecutingActive s = true ↔
      s.isActive s.ipsr.toNat = true ∧ ∀ n, 1 ≤ n → s.isActive n = true → n = s.ipsr.toNat := by
  simp only [onlyExecutingActive, Bool.and_eq_true, List.all_eq_true, Bool.or_eq_true, Bool.not_eq_true', decide_eq_true_eq, mem_excNumbers]
  refine and_congr_right fun _ => ⟨fun h n hn hactive => ?_, fun h n ⟨hn, _⟩ => ?_⟩
  · exact (h n ⟨hn, lt_of_isActive hactive⟩).resolve_left fun hoff => by cases hoff.symm.trans hactive
  · cases hactive : s.isActive n
    · exact .inl rfl
    · exact .inr (h n hn hactive)

/-- RETTOBASE in Handler mode (R149). -/
theorem retToBase_handler {s : State} (h : s.ipsr ≠ 0#9) (d : Nat) : retToBase s d = onlyExecutingActive s := if_neg h

/-- Settles O19: the word read is `icsrValue`, put together from the views and two draws. -/
theorem icsrReadReturnsTheViews : Obligations.IcsrReadReturnsTheViews := by
  intro s
  refine ⟨icsrValue s, Config.drawBit s.drawn, Config.drawBit (s.drawn + 1), retToBase s (s.drawn + 2), rfl, rfl,
    (bitsAre_icsrValue s).perm (.append_right _ ?_), fun hhandler => ?_⟩
  · simp only [List.append_assoc]
    exact .append_left _ List.perm_append_comm
  · rw [retToBase_handler hhandler]
    exact onlyExecutingActive_iff s

/-! ## VECTPENDING and ISRPENDING -/

/-- What VECTPENDING chooses among (R148). -/
theorem mem_vectCandidates {s : State} {n : Nat} :
    n ∈ vectCandidates s ↔
      (1 ≤ n ∧ n < 128) ∧ s.isPending n = true ∧ enabled s n = true ∧ s.maskedHolds.contains n = false := by
  simp only [vectCandidates, maskedByBasepriOrFaultmask, List.mem_filter, mem_excNumbers, Bool.and_eq_true, Bool.not_eq_true', and_assoc]

theorem vectCandidates_sorted (s : State) : (vectCandidates s).Pairwise (· < ·) := excNumbers_sorted.filter _

/-- A pending number is one that the array has. -/
theorem lt_of_isPending {s : State} {n : Nat} (h : s.isPending n = true) : n < 128 := by
  by_contra hge
  cases (isPending_of_ge (Nat.le_of_not_lt hge)).symm.trans h

/-- Under the invariant there is no exception 0 to be pending (R41). -/
theorem pos_of_isPending {s : State} (hinv : Inv s) {n : Nat} (h : s.isPending n = true) : 1 ≤ n :=
  (hinv.1 n (lt_of_isPending h) (.inl h)).1

/-- With nothing to choose among VECTPENDING is 0 (R148). -/
theorem vectPending_of_nil {s : State} (h : vectCandidates s = []) : vectPending s = 0#7 := by
  rw [vectPending, h]; rfl

/-- With a candidate `n` VECTPENDING is a candidate of lowest priority value, the lowest number among equals (R148, R308). -/
theorem vectPending_of_mem {s : State} {n : Nat} (h : n ∈ vectCandidates s) :
    ∃ m, vectPending s = BitVec.ofNat 7 m ∧ m ∈ vectCandidates s ∧ (prio s m < prio s n ∨ prio s m = prio s n ∧ m ≤ n) := by
  obtain ⟨hnone, hsome⟩ := highest_spec (prio s) _ (vectCandidates_sorted s)
  cases hbest : highest (prio s) (vectCandidates s) with
  | none => exact absurd (hnone.mp hbest) (List.ne_nil_of_mem h)
  | some m =>
    obtain ⟨hmem, hleast⟩ := hsome m hbest
    exact ⟨m, by rw [vectPending, hbest], hmem, hleast n h⟩

/-- ISRPENDING is 1 exactly when an interrupt is pending (R147). -/
theorem isrPending_iff (s : State) : isrPending s = true ↔ ∃ n, 16 ≤ n ∧ s.isPending n = true := by
  simp only [isrPending, irqNumbers, List.any_eq_true, List.mem_range'_1]
  exact ⟨fun ⟨n, hn, h⟩ => ⟨n, hn.1, h⟩, fun ⟨n, hn, h⟩ => ⟨n, ⟨hn, lt_of_isPending h⟩, h⟩⟩

/-- Settles O20: VECTPENDING is the choice of `highest` among its candidates, and the invariant bounds the numbers. -/
theorem icsrPendingViewsAreRight : Obligations.IcsrPendingViewsAreRight := by
  intro s hinv
  refine ⟨fun hheld => ?_, fun n hpend hen hfree => ?_, ?_⟩
  · refine vectPending_of_nil (List.eq_nil_iff_forall_not_mem.mpr fun n hn => ?_)
    obtain ⟨-, hpend, hen, hfree⟩ := mem_vectCandidates.mp hn
    cases hfree.symm.trans (hheld n hpend hen)
  · have hn : n ∈ vectCandidates s := mem_vectCandidates.mpr ⟨⟨pos_of_isPending hinv hpend, lt_of_isPending hpend⟩, hpend, hen, hfree⟩
    obtain ⟨m, hview, hm, hleast⟩ := vectPending_of_mem hn
    obtain ⟨⟨hpos, hlt⟩, hpendm, henm, hfreem⟩ := mem_vectCandidates.mp hm
    exact ⟨m, hview, hpos, hlt, hpendm, henm, hfreem, hleast⟩
  · rw [isrPending_iff]
    exact ⟨fun ⟨n, hn, h⟩ => ⟨n, hn, (hinv.1 n (lt_of_isPending h) (.inl h)).2, h⟩, fun ⟨n, hn, _, h⟩ => ⟨n, hn, h⟩⟩

/-! ## The split of a priority (Table 50, R170) -/

theorem toNat_prioByte (l : BitVec 4) : (prioByte l).toNat = 2 ^ 4 * l.toNat := by
  rw [prioByte, BitVec.toNat_append, Nat.shiftLeft_eq, BitVec.toNat_zero, Nat.or_zero, Nat.mul_comm]

/-- A PRIGROUP that puts no implemented bit into the subpriority (R169, R170). -/
theorem prioByte_dvd (l : BitVec 4) {g : BitVec 3} (hg : g.toNat ≤ 3) : 2 ^ (g.toNat + 1) ∣ (prioByte l).toNat := by
  rw [toNat_prioByte]
  exact (pow_dvd_pow 2 (by omega)).mul_right _

/-- A PRIGROUP that puts `k` implemented bits into the subpriority splits the level there (R170). -/
theorem groupPrio_prioByte (l : BitVec 4) {g : BitVec 3} {k : Nat} (hg : g.toNat + 1 = 4 + k) :
    groupPrio (prioByte l) g = l.toNat / 2 ^ k := by
  rw [groupPrio, toNat_prioByte, hg, Nat.pow_add, Nat.mul_div_mul_left _ _ (by decide)]

theorem subPrio_prioByte (l : BitVec 4) {g : BitVec 3} {k : Nat} (hg : g.toNat + 1 = 4 + k) :
    subPrio (prioByte l) g = l.toNat % 2 ^ k := by
  rw [subPrio, toNat_prioByte, hg, Nat.pow_add, Nat.mul_mod_mul_left, Nat.mul_div_cancel_left _ (by decide)]

/-- Settles O51: PRIGROUP 0 to 3 cut below the implemented bits, 4 to 7 leave 1 to 4 of them to the subpriority. -/
theorem prioritySplitFollowsTable50 : Obligations.PrioritySplitFollowsTable50 := by
  intro l
  have hlt := l.isLt
  refine ⟨fun g hg => ⟨BitVec.eq_of_toNat_eq ?_, ?_⟩, ⟨groupPrio_prioByte l (k := 1) rfl, subPrio_prioByte l (k := 1) rfl⟩,
    ⟨groupPrio_prioByte l (k := 2) rfl, subPrio_prioByte l (k := 2) rfl⟩,
    ⟨groupPrio_prioByte l (k := 3) rfl, subPrio_prioByte l (k := 3) rfl⟩, ⟨?_, ?_⟩, fun g => toNat_groupValue g _⟩
  · rw [toNat_groupValue, Nat.div_mul_cancel (prioByte_dvd l hg)]
  · rw [subPrio, Nat.mod_eq_zero_of_dvd (prioByte_dvd l hg), Nat.zero_div]
  · rw [groupPrio_prioByte l (k := 4) rfl, Nat.div_eq_of_lt hlt]
  · rw [subPrio_prioByte l (k := 4) rfl, Nat.mod_eq_of_lt hlt]

end Sys2Proof.Machine

/-! PendSV becomes pending through ICSR only: no fault, no other register and no event of the environment raises it (R143, R50, R324). -/

namespace Sys2Proof.Machine

/-! ## The relation -/

/-- If PendSV is pending in `t`, it was in `s`. -/
def PendSvNotRaised (s t : State) : Prop := t.isPending excPendSv = true → s.isPending excPendSv = true

namespace PendSvNotRaised

theorem refl (s : State) : PendSvNotRaised s s := id

theorem trans {s t u : State} (h : PendSvNotRaised s t) (k : PendSvNotRaised t u) : PendSvNotRaised s u := h ∘ k

/-- An update that leaves the pending states. -/
theorem of_pending {s t : State} (h : t.pending = s.pending := by rfl) : PendSvNotRaised s t := by
  intro hset
  rwa [State.isPending, h] at hset

/-- A change of the pending state of another exception. -/
theorem setPending {s t : State} (h : PendSvNotRaised s t) {n : Nat} (b : Bool) (hn : n ≠ excPendSv := by decide) :
    PendSvNotRaised s (t.setPending n b) := by
  refine h.trans fun hset => ?_
  rwa [isPending_setPending, if_neg fun hsame => hn hsame.1] at hset

end PendSvNotRaised

/-- Faults raise other exceptions (R300, R324). -/
theorem Evolves.pendSvNotRaised {s t : State} (h : Evolves s t) : PendSvNotRaised s t := by
  intro hset
  refine (h.pending excPendSv hset).resolve_right ?_
  simp [isFaultExc, excPendSv, excHardFault, excMemManage, excBusFault, excUsageFault]

/-! ## Accesses -/

/-- A rule that, wherever it performs the write, does not raise PendSV. -/
def RaisesNoPendSv (rule : State → Result) : Prop := ∀ s t, rule s = .next t → PendSvNotRaised s t

/-- An unprivileged access is a fault (R79). -/
theorem unprivilegedAccess_raisesNoPendSv (load : Bool) (a : Word) : RaisesNoPendSv (unprivilegedAccess load a) := by
  intro s t h
  cases h
  have dropData : PendSvNotRaised s { s with readData := none } := .of_pending
  exact dropData.trans (evolves_preciseBusError load a _).pendSvNotRaised

theorem readAccess_raisesNoPendSv (priv : Bool) (a : Word) (value : State → ReadData) : RaisesNoPendSv (readAccess priv a value) := by
  intro s t h
  cases priv with
  | false => exact unprivilegedAccess_raisesNoPendSv true a s t h
  | true => cases h; exact .of_pending

theorem writeAccess_raisesNoPendSv (priv : Bool) (a : Word) {rule : State → Result} (hr : RaisesNoPendSv rule) :
    RaisesNoPendSv (writeAccess priv a rule) := by
  intro s t h
  cases priv with
  | false => exact unprivilegedAccess_raisesNoPendSv false a s t h
  | true =>
    have dropData : PendSvNotRaised s { s with readData := none } := .of_pending
    exact dropData.trans (hr _ t h)

/-- A rule that always performs the write, and leaves the pending states. -/
theorem raisesNoPendSv_of_next {f : State → State} (hf : ∀ s, (f s).pending = s.pending := by exact fun _ => rfl) :
    RaisesNoPendSv fun s => .next (f s) := by
  intro s t h
  cases h
  exact .of_pending (hf s)

/-- The same rule behind the guard of the reserved positions. -/
theorem guarded_raisesNoPendSv (r v : Word) {f : State → State} (hf : ∀ s, (f s).pending = s.pending := by exact fun _ => rfl) :
    RaisesNoPendSv (guardReserved r v fun s => .next (f s)) := by
  intro s t h
  have performed := guardReserved_next h
  exact raisesNoPendSv_of_next hf s t performed

theorem writeHfsr_raisesNoPendSv (v : Word) : RaisesNoPendSv (writeHfsr v) := by
  intro s t h
  have acted := guardReserved_next h
  split at acted <;> cases acted
  exact .of_pending

theorem writeAircr_raisesNoPendSv (v : Word) : RaisesNoPendSv (writeAircr v) := by
  intro s t h
  unfold writeAircr at h
  split at h
  · have keyed := guardReserved_next h
    unfold aircrKeyed at keyed
    split at keyed <;> cases keyed
    exact .of_pending
  · cases h; exact .refl s

/-- SHCSR has no bit for PendSV's pending state (R213). -/
theorem writeShcsr_raisesNoPendSv (v : Word) : RaisesNoPendSv (writeShcsr v) := by
  intro s t h
  cases guardReserved_next h
  have enabled : PendSvNotRaised s { s with ena := ⟨v.getLsbD 18, v.getLsbD 17, v.getLsbD 16⟩ } := .of_pending
  have pended : PendSvNotRaised s (shcsrPended v { s with ena := ⟨v.getLsbD 18, v.getLsbD 17, v.getLsbD 16⟩ }) :=
    enabled.setPending _ |>.setPending _ |>.setPending _ |>.setPending _
  exact pended.trans fun hset => (isPending_shcsrActive v _ _).symm.trans hset

/-- Without PENDSVSET a write of ICSR can only clear PendSV (R143). -/
theorem writeIcsr_raisesNoPendSv {v : Word} (hv : v.getLsbD 28 = false) : RaisesNoPendSv (writeIcsr v) := by
  intro s t h hset
  rw [writeIcsr_next h, isPending_icsrTriggers, if_neg (by decide), if_pos rfl, hv, Bool.false_or, Bool.and_eq_true] at hset
  exact hset.2

/-- Every operation but a privileged write of ICSR with PENDSVSET = 1 leaves PendSV not pending. -/
theorem exec_raisesNoPendSv (i : Instr) (hi : ∀ v, i = .wrIcsr true v → v.getLsbD 28 = false) : RaisesNoPendSv (exec i) := by
  cases i with
  | rdIcsr p =>
    intro s t h
    cases p with
    | false => exact unprivilegedAccess_raisesNoPendSv true _ s t h
    | true => cases h; exact .of_pending
  | rdActlr | rdCpuid | rdVtor | rdAircr | rdScr | rdCcr | rdShpr1 | rdShpr2 | rdShpr3 | rdShcsr | rdCfsr | rdHfsr | rdMmfar | rdBfar
  | rdAfsr | rdbPri4 | rdbPri5 | rdbPri6 | rdbShpr1B3 | rdhShpr1Lo | rdhShpr1Hi | rdbShpr2B0 | rdbShpr2B1 | rdbShpr2B2 | rdbPri11
  | rdhShpr2Lo | rdhShpr2Hi | rdbShpr3B0 | rdbShpr3B1 | rdbPri14 | rdbPri15 | rdhShpr3Lo | rdhShpr3Hi | rdbMmfsr | rdbBfsr
  | rdbUfsrLo | rdbUfsrHi | rdhCfsrLo | rdhUfsr => exact readAccess_raisesNoPendSv _ _ _
  | wrIcsr p v =>
    cases p with
    | false => exact unprivilegedAccess_raisesNoPendSv false _
    | true => exact writeAccess_raisesNoPendSv true 0xE000ED04#32 (writeIcsr_raisesNoPendSv (hi v rfl))
  | wrShcsr p v => exact writeAccess_raisesNoPendSv p _ (writeShcsr_raisesNoPendSv v)
  | wrAircr p v => exact writeAccess_raisesNoPendSv p _ (writeAircr_raisesNoPendSv v)
  | wrHfsr p v => exact writeAccess_raisesNoPendSv p _ (writeHfsr_raisesNoPendSv v)
  | wrCpuid p | wrMmfar p | wrBfar p | wrAfsr p => exact writeAccess_raisesNoPendSv p _ raisesNoPendSv_of_next
  | wrActlr p | wrVtor p | wrScr p | wrCcr p | wrShpr1 p | wrShpr2 p | wrShpr3 p | wrCfsr p | wrbPri4 p | wrbPri5 p | wrbPri6 p
  | wrbShpr1B3 p | wrhShpr1Lo p | wrhShpr1Hi p | wrbShpr2B0 p | wrbShpr2B1 p | wrbShpr2B2 p | wrbPri11 p | wrhShpr2Lo p
  | wrhShpr2Hi p | wrbShpr3B0 p | wrbShpr3B1 p | wrbPri14 p | wrbPri15 p | wrhShpr3Lo p | wrhShpr3Hi p | wrbMmfsr p | wrbBfsr p
  | wrbUfsrLo p | wrbUfsrHi p | wrhCfsrLo p | wrhUfsr p => exact writeAccess_raisesNoPendSv p _ (guarded_raisesNoPendSv _ _)

/-! ## Events -/

theorem latchAuxfault_pending (s : State) : (latchAuxfault s).pending = s.pending := by unfold latchAuxfault; split <;> rfl

theorem latchBefore_pending (e : Event) (s : State) : (latchBefore e s).pending = s.pending := by
  unfold latchBefore
  split
  · rfl
  · exact latchAuxfault_pending s

theorem eventWfe_pending (s : State) : (eventWfe s).pending = s.pending := by
  unfold eventWfe
  split
  · dsimp only; split <;> rfl
  · rfl

theorem eventAutoFpca_pending (v : Bool) (s : State) : (eventAutoFpca v s).pending = s.pending := by
  unfold eventAutoFpca; split <;> rfl

theorem eventNvic_pending {k : Nat} {en : Bool} {p : BitVec 4} {s t : State} (h : eventNvic k en p s = .next t) :
    t.pending = s.pending := by
  unfold eventNvic at h
  split at h <;> cases h
  rfl

theorem eventCore_pending {pc sp : Word} {s t : State} (h : eventCore pc sp s = .next t) : t.pending = s.pending := by
  unfold eventCore at h
  split at h <;> cases h
  rfl

/-- The exception of an interrupt line is not PendSV (R41). -/
theorem irq_ne_pendSv (k : Nat) : 16 + k ≠ excPendSv := by unfold excPendSv; omega

/-- A request of another exception leaves PendSV (R305). -/
theorem requestException_pendSvNotRaised {n : Nat} (s : State) (hn : n ≠ excPendSv := by decide) :
    PendSvNotRaised s (requestException n s) := by
  unfold requestException
  dsimp only
  split
  · exact PendSvNotRaised.setPending .of_pending true hn
  · exact (PendSvNotRaised.refl s).setPending true hn

theorem eventIrq_pendSvNotRaised {k : Nat} {s t : State} (h : eventIrq k s = .next t) : PendSvNotRaised s t := by
  unfold eventIrq at h
  split at h <;> cases h
  exact requestException_pendSvNotRaised s (irq_ne_pendSv k)

theorem eventIrqClear_pendSvNotRaised {k : Nat} {s t : State} (h : eventIrqClear k s = .next t) : PendSvNotRaised s t := by
  unfold eventIrqClear at h
  split at h <;> cases h
  exact (PendSvNotRaised.refl s).setPending false (irq_ne_pendSv k)

theorem eventStir_pendSvNotRaised {priv : Bool} {k : Nat} {s t : State} (h : eventStir priv k s = .next t) : PendSvNotRaised s t := by
  unfold eventStir at h
  split at h
  · exact eventIrq_pendSvNotRaised h
  · cases h

/-- A reported fault that records no address leaves PendSV. -/
theorem reportFault_pendSvNotRaised (c : Cause) (s : State) : PendSvNotRaised s (reportFault c .none s) :=
  (evolves_reportFault (.inl rfl) s).pendSvNotRaised

theorem eventDivideByZero_pendSvNotRaised (s : State) : PendSvNotRaised s (eventDivideByZero s) := by
  unfold eventDivideByZero
  split
  · exact reportFault_pendSvNotRaised _ s
  · exact .of_pending

/-- What is refused in the block raises elsewhere what the access raises. -/
theorem refuseInBlock_pendSvNotRaised {a : Word} {n : Nat} {why : Refusal} {done s t : State} (hd : PendSvNotRaised s done)
    (h : refuseInBlock a n why (.next done) = .next t) : PendSvNotRaised s t := by
  obtain ⟨-, hgo⟩ := refuseInBlock_next h
  cases hgo
  exact hd

theorem bufferOrComplete_pendSvNotRaised (a : Word) (fails : Bool) (s : State) : PendSvNotRaised s (bufferOrComplete a fails s) := by
  unfold bufferOrComplete
  split
  · split
    · exact (evolves_preciseBusError false a s).pendSvNotRaised
    · exact .refl s
  · exact .of_pending

theorem eventBufferableStore_pendSvNotRaised {size : Size} {a : Word} {fails : Bool} {s t : State}
    (h : eventBufferableStore size a fails s = .next t) : PendSvNotRaised s t := by
  refine refuseInBlock_pendSvNotRaised ?_ h
  rcases alignedOrTrap_cases s.seen.ccr.unalignTrp size a (bufferOrComplete a fails s) s with ⟨-, -, trapped⟩ | ⟨-, performed⟩
  · rw [trapped]; exact reportFault_pendSvNotRaised _ s
  · rw [performed]; exact bufferOrComplete_pendSvNotRaised a fails s

theorem eventDrain_pendSvNotRaised {i : Nat} {fails : Bool} {next : Word} {s t : State} (h : eventDrain i fails next s = .next t) :
    PendSvNotRaised s t := by
  have completed : PendSvNotRaised s { s with writeBuffer := s.writeBuffer.eraseIdx i } := .of_pending
  unfold eventDrain at h
  split at h
  · dsimp only at h
    split at h
    · split at h <;> cases h
      exact completed.trans (evolves_impreciseBusError next _).pendSvNotRaised
    · cases h; exact completed
  · cases h; exact .refl s

/-- No event raises PendSV (R143): requests and faults are of other exceptions, and reset clears it. -/
theorem performEvent_pendSvNotRaised {e : Event} {s t : State} (h : performEvent e s = .next t) : PendSvNotRaised s t := by
  cases e with
  | reset => cases h; intro hset; simp at hset
  | auxfault level => cases h; exact .of_pending (latchAuxfault_pending _)
  | nmi | sysTick | svc => cases h; exact requestException_pendSvNotRaised s
  | irq => exact eventIrq_pendSvNotRaised h
  | irqClear => exact eventIrqClear_pendSvNotRaised h
  | stir => exact eventStir_pendSvNotRaised h
  | nvic => exact .of_pending (eventNvic_pending h)
  | core => exact .of_pending (eventCore_pending h)
  | autoFpca v => cases h; exact .of_pending (eventAutoFpca_pending v s)
  | wfe => cases h; exact .of_pending (eventWfe_pending s)
  | observe | masks | externalEvent | sev | wfi | prefetchError | entryErrors => cases h; exact .of_pending
  | divideByZero => cases h; exact eventDivideByZero_pendSvNotRaised s
  | coprocessor | illegalEpsr | undefinedInstr => cases h; exact reportFault_pendSvNotRaised _ s
  | fetch => exact refuseInBlock_pendSvNotRaised (.refl s) h
  | issueError | fetchViolation => exact refuseInBlock_pendSvNotRaised (reportFault_pendSvNotRaised _ s) h
  | dataAccess | multiAccess => exact refuseInBlock_pendSvNotRaised (evolves_alignedOrTrap _ _ _ s).pendSvNotRaised h
  | busError load size a => exact refuseInBlock_pendSvNotRaised (evolves_preciseBusError load a s).pendSvNotRaised h
  | dataViolation size a => exact refuseInBlock_pendSvNotRaised (evolves_dataViolation size a s).pendSvNotRaised h
  | lazyBusError a => exact refuseInBlock_pendSvNotRaised (evolves_lazyFault (c := .lsperr) trivial a s).pendSvNotRaised h
  | lazyViolation a => exact refuseInBlock_pendSvNotRaised (evolves_lazyFault (c := .mlsperr) trivial a s).pendSvNotRaised h
  | bufferableStore => exact eventBufferableStore_pendSvNotRaised h
  | drain => exact eventDrain_pendSvNotRaised h
  | takeException m next => cases h; exact (evolves_eventTakeException m next s).pendSvNotRaised
  | exceptionReturn th v u => cases h; exact (evolves_exceptionReturn th v u s).pendSvNotRaised

theorem stepEvent_pendSvNotRaised {e : Event} {s t : State} (h : stepEvent e s = .next t) : PendSvNotRaised s t := by
  rcases stepEvent_next h with ⟨-, -, rfl⟩ | ⟨-, -, rfl⟩ | ⟨-, -, -, performed⟩
  · exact performEvent_pendSvNotRaised (e := .reset) rfl
  · exact .refl _
  · exact performEvent_pendSvNotRaised performed

/-! ## The step -/

/-- A step raises PendSV only if it performs a write of ICSR with PENDSVSET = 1. -/
theorem step_pendSv {s t : State} (h : step s = .next t) :
    PendSvNotRaised s t ∨
      ∃ bytes rest v, s.schedule = .access bytes :: rest ∧ decode bytes = .ok (.wrIcsr true v) ∧ v.getLsbD 28 = true := by
  have taken : PendSvNotRaised s (afterFetch s) := .of_pending
  match hsched : s.schedule with
  | [] =>
    have idle : step s = .next (latchAuxfault s) := by simp [step, hsched]
    cases idle.symm.trans h
    exact .inl (.of_pending (latchAuxfault_pending s))
  | .event e :: rest =>
    rw [step_event hsched] at h
    exact .inl (taken.trans ((PendSvNotRaised.of_pending (latchBefore_pending e _)).trans (stepEvent_pendSvNotRaised h)))
  | .access bytes :: rest =>
    rw [step_access hsched] at h
    obtain ⟨-, -, -, i, hdecode, hexec⟩ := stepAccess_next h
    have latched := taken.trans (.of_pending (latchAuxfault_pending _))
    by_cases hicsr : ∃ v, i = .wrIcsr true v ∧ v.getLsbD 28 = true
    · obtain ⟨v, rfl, hset⟩ := hicsr
      exact .inr ⟨bytes, rest, v, rfl, hdecode, hset⟩
    · have noSet : ∀ v, i = .wrIcsr true v → v.getLsbD 28 = false := fun v hv =>
        Bool.eq_false_iff.mpr fun hset => hicsr ⟨v, hv, hset⟩
      exact .inl (latched.trans (exec_raisesNoPendSv i noSet _ t hexec))

/-- Settles O11: a step that raises PendSV is such a write. -/
theorem pendSvBecomesPendingOnlyThroughIcsr : Obligations.PendSvBecomesPendingOnlyThroughIcsr := by
  intro s t hstep hclear hset
  exact (step_pendSv hstep).resolve_left fun kept => by cases hclear.symm.trans (kept hset)

end Sys2Proof.Machine

/-! The bits of SCR and CCR that decide what an event does, as the processor acts on them: BFHFNMIGN, STKALIGN, NONBASETHRDENA, SEVONPEND,
DIV_0_TRP and UNALIGN_TRP (R182, R190 to R195, log 20). -/

namespace Sys2Proof.Machine

/-! ## BFHFNMIGN, and faults at priority −1 and −2 -/

/-- An ignored bus error at `a` is recorded: PRECISERR is set, with its address, and MMARVALID may have fallen (R191, R267). -/
def RecordedPrecise (a : Word) (s t : State) : Prop :=
  t.cfsr.preciserr = true ∧ t.cfsr.bfarvalid = true ∧ t.bfar = a ∧
    (t.cfsr.mmarvalid = s.cfsr.mmarvalid ∧ t.mmfar = s.mmfar ∨ t.cfsr.mmarvalid = false)

/-- It is not recorded. -/
def Unrecorded (s t : State) : Prop := t.cfsr = s.cfsr ∧ t.bfar = s.bfar ∧ t.mmfar = s.mmfar

/-- The record of a fault does not change what is active, nor what masks. -/
theorem currentPriority_recordFault (c : Cause) (a : FaultAddr) (s : State) : currentPriority (recordFault c a s) = currentPriority s := by
  obtain ⟨k, frame⟩ := recordFault_frame c a s
  rw [frame]
  rfl

theorem recordFault_seen (c : Cause) (a : FaultAddr) (s : State) : (recordFault c a s).seen = s.seen := by
  obtain ⟨k, frame⟩ := recordFault_frame c a s
  rw [frame]

/-- A fault at priority −1 or −2 that is not ignored leaves its record and locks the processor up (R303, R304). -/
theorem reportFault_locksUp {c : Cause} {s : State} (a : FaultAddr) (hlock : s.lockedUp = false) (hprio : currentPriority s ≤ -1)
    (h : causeIsDataBusError c = false ∨ s.seen.ccr.bfhfnmign = false) : reportFault c a s = (recordFault c a s).lockUp := by
  have hprio' : currentPriority (recordFault c a s) ≤ -1 := by rwa [currentPriority_recordFault]
  have counted : ¬ (causeIsDataBusError c && (recordFault c a s).seen.ccr.bfhfnmign) = true := by
    rw [recordFault_seen]
    rcases h with hc | hb
    · simp [hc]
    · simp [hb]
  have notTaken : ¬ canTake (recordFault c a s) (causeClass c) = true := by simp [canTake_causeClass c hprio']
  unfold reportFault reportWith
  rw [if_neg (by simp [hlock])]
  dsimp only
  rw [if_neg notTaken, escalateWith, if_pos hprio', if_neg counted]

/-- What an ignored bus error leaves of a record (R191): none, after some draws, or that of a precise error at its address. -/
theorem ignoredBusError_cases (a : Word) (s : State) :
    (∃ k, ignoredBusError a s = s.bump k ∧ s.params.ignoredRecords ≠ .status) ∨
      ∃ k, ignoredBusError a s = recordFault .preciserr (.known a) (s.bump k) ∧ s.params.ignoredRecords ≠ .none := by
  unfold ignoredBusError
  split
  next hnone => exact .inl ⟨0, rfl, by simp [hnone]⟩
  next hstatus => exact .inr ⟨0, rfl, by simp [hstatus]⟩
  next hdrawn =>
    split
    · exact .inr ⟨1, rfl, by simp [hdrawn]⟩
    · exact .inl ⟨1, rfl, by simp [hdrawn]⟩

/-- An ignored bus error changes the flags, the address registers and the count of draws, and nothing else. -/
theorem ignoredBusError_frame (a : Word) (s : State) :
    ∃ k, ignoredBusError a s =
      { s with
        cfsr := (ignoredBusError a s).cfsr
        bfar := (ignoredBusError a s).bfar
        mmfar := (ignoredBusError a s).mmfar
        drawn := s.drawn + k } := by
  rcases ignoredBusError_cases a s with ⟨k, unrecorded, -⟩ | ⟨k, recorded, -⟩
  · rw [unrecorded]; exact ⟨k, rfl⟩
  · obtain ⟨d, frame⟩ := recordFault_frame .preciserr (.known a) (s.bump k)
    rw [recorded]
    exact ⟨k + d, frame.trans (by simp [State.bump, Nat.add_assoc])⟩

/-- It sets no flag but PRECISERR. -/
theorem sameFlag_ignoredBusError {c : Cause} (h : c ≠ .preciserr) (a : Word) (s : State) : SameFlag c s (ignoredBusError a s) := by
  rcases ignoredBusError_cases a s with ⟨k, unrecorded, -⟩ | ⟨k, recorded, -⟩
  · rw [unrecorded]; exact .of_cfsr c rfl
  · rw [recorded]; exact .trans (t := s.bump k) rfl (sameFlag_recordFault h (.known a) (s.bump k))

theorem recordedPrecise_recordFault (a : Word) (s : State) (k : Nat) :
    RecordedPrecise a s (recordFault .preciserr (.known a) (s.bump k)) := by
  have record := recorded_recordFault .preciserr (.known a) (s.bump k)
  obtain ⟨haddr, hvalid, hother⟩ := AddressWritten.bus record.address rfl
  exact ⟨record.flag, hvalid, haddr, hother.imp_left And.symm⟩

/-- BFHFNMIGN_RECORDS says which of the two an ignored bus error is, but for a draw (D36, log 27). -/
theorem ignoredBusError_record (a : Word) (s : State) :
    Unrecorded s (ignoredBusError a s) ∧ s.params.ignoredRecords ≠ .status ∨
      RecordedPrecise a s (ignoredBusError a s) ∧ s.params.ignoredRecords ≠ .none := by
  rcases ignoredBusError_cases a s with ⟨k, unrecorded, hparam⟩ | ⟨k, recorded, hparam⟩
  · rw [unrecorded]; exact .inl ⟨⟨rfl, rfl, rfl⟩, hparam⟩
  · rw [recorded]; exact .inr ⟨recordedPrecise_recordFault a s k, hparam⟩

/-- An ignored bus error of a load or store as a whole: beside the record only the destination changes, a load's to a value drawn here (R191). -/
theorem ignoredLoad_frame (load : Bool) (a : Word) (s : State) :
    ∃ k w, ignoredLoad load (ignoredBusError a s) =
        { s with
          cfsr := (ignoredBusError a s).cfsr
          bfar := (ignoredBusError a s).bfar
          mmfar := (ignoredBusError a s).mmfar
          destWrite := w
          drawn := s.drawn + k } ∧
      (load = false → w = s.destWrite) ∧ (load = true → ∃ d, s.drawn ≤ d ∧ d < s.drawn + k ∧ w = some (Config.drawWord d)) := by
  obtain ⟨k, frame⟩ := ignoredBusError_frame a s
  have hdrawn : (ignoredBusError a s).drawn = s.drawn + k := by rw [frame]
  cases load with
  | false => exact ⟨k, s.destWrite, frame, fun _ => rfl, nofun⟩
  | true =>
    refine ⟨k + 1, some (Config.drawWord (s.drawn + k)), ?_, nofun, fun _ => ⟨s.drawn + k, by omega, by omega, rfl⟩⟩
    rw [ignoredLoad, if_pos rfl, hdrawn]
    conv_lhs => rw [frame]
    rfl

/-- Settles O43: under BFHFNMIGN the error is the ignored one, and without it the report locks the processor up. -/
theorem ignoredBusErrorRaisesNothing : Obligations.IgnoredBusErrorRaisesNothing := by
  intro s load size a hout hlock hprio
  have performed : performEvent (.busError load size a) s = .next (preciseBusError load a s) := singleOutsideBlock_outside _ hout
  refine ⟨fun hset => ?_, fun hclear => ?_⟩
  · have ignored : preciseBusError load a s = ignoredLoad load (ignoredBusError a s) := if_pos ⟨hprio, hset⟩
    obtain ⟨k, w, frame, hstore, hload⟩ := ignoredLoad_frame load a s
    refine ⟨_, performed.trans (congrArg _ (ignored.trans frame)), rfl, rfl, rfl, rfl, rfl, rfl, rfl, rfl, hlock, rfl, rfl,
      by constructor <;> rfl, by constructor <;> rfl, hstore, hload, fun c hc => sameFlag_ignoredBusError hc a s, ?_⟩
    rcases ignoredBusError_record a s with ⟨unrecorded, hparam⟩ | ⟨recorded, hparam⟩
    · exact ⟨fun _ => unrecorded, fun hstatus => absurd hstatus hparam, .inl unrecorded⟩
    · obtain ⟨hflag, hvalid, haddr, hother⟩ := recorded
      exact ⟨fun hnone => absurd hnone hparam, fun _ => ⟨hflag, hvalid, haddr⟩, .inr ⟨hflag, hvalid, haddr, hother⟩⟩
  · have reported : preciseBusError load a s = reportFault .preciserr (.known a) s := if_neg (by simp [hclear])
    have lockedUp := reportFault_locksUp (c := .preciserr) (.known a) hlock hprio (.inr hclear)
    obtain ⟨k, frame⟩ := recordFault_frame .preciserr (.known a) s
    have hframes : (recordFault .preciserr (.known a) s).frames = s.frames := by rw [frame]
    exact ⟨_, performed.trans (congrArg _ (reported.trans lockedUp)), rfl, hframes, recordFault_flag .preciserr _ s,
      (recordFault_bus (c := .preciserr) rfl a s).1⟩

/-! ## STKALIGN -/

/-- A placed field that fits its word is a multiple of its place (R104). -/
theorem toNat_fieldAt {w : Nat} (v : BitVec w) {i : Nat} (h : w + i ≤ 32) : (fieldAt v i).toNat = v.toNat * 2 ^ i := by
  have hv : v.toNat * 2 ^ i < 2 ^ 32 := calc
    v.toNat * 2 ^ i < 2 ^ w * 2 ^ i := Nat.mul_lt_mul_of_pos_right v.isLt (Nat.two_pow_pos i)
    _ = 2 ^ (w + i) := (Nat.pow_add 2 w i).symm
    _ ≤ 2 ^ 32 := Nat.pow_le_pow_right (by omega) h
  have hw : v.toNat < 2 ^ 32 := v.isLt.trans_le (Nat.pow_le_pow_right (by omega) (by omega))
  rw [fieldAt, BitVec.toNat_shiftLeft, BitVec.toNat_setWidth, Nat.mod_eq_of_lt hw, Nat.shiftLeft_eq, Nat.mod_eq_of_lt hv]

/-- Clearing the low `k` bits of an address rounds it down. -/
theorem toNat_and_shiftLeft_allOnes (x : Word) (k : Nat) : (x &&& (BitVec.allOnes 32 <<< k)).toNat = x.toNat / 2 ^ k * 2 ^ k := by
  have shifted : x &&& (BitVec.allOnes 32 <<< k) = x >>> k <<< k := by
    refine BitVec.eq_of_getLsbD_eq fun i hi => ?_
    simp only [BitVec.getLsbD_and, BitVec.getLsbD_shiftLeft, BitVec.getLsbD_allOnes, BitVec.getLsbD_ushiftRight]
    by_cases hk : i < k
    · simp [hk]
    · have hik : k + (i - k) = i := by omega
      have hsub : i - k < 32 := by omega
      simp [hk, hik, hi, hsub]
  have hle : x.toNat / 2 ^ k * 2 ^ k < 2 ^ 32 := (Nat.div_mul_le_self _ _).trans_lt x.isLt
  rw [shifted, BitVec.toNat_shiftLeft, BitVec.toNat_ushiftRight, Nat.shiftRight_eq_div_pow, Nat.shiftLeft_eq, Nat.mod_eq_of_lt hle]

/-- The frame of `words` words would start here if nothing had to be aligned. -/
def unalignedFrameAddr (s : State) (words : BitVec 30) : Word := s.sp - fieldAt words 2

/-- Under STKALIGN the frame starts at the multiple of 8 below, and else at the multiple of 4 (R190). -/
theorem toNat_frameAddr (s : State) (words : BitVec 30) :
    (frameAddr s words).toNat =
      if s.seen.ccr.stkalign then (unalignedFrameAddr s words).toNat / 8 * 8 else (unalignedFrameAddr s words).toNat / 4 * 4 := by
  unfold frameAddr
  split
  · exact toNat_and_shiftLeft_allOnes _ 3
  · exact toNat_and_shiftLeft_allOnes _ 2

theorem frameAddr_mod_eight {s : State} (h : s.seen.ccr.stkalign = true) (words : BitVec 30) : (frameAddr s words).toNat % 8 = 0 := by
  rw [toNat_frameAddr, if_pos h, Nat.mul_mod_left]

theorem frameAddr_mod_four {s : State} (h : s.seen.ccr.stkalign = false) (words : BitVec 30) : (frameAddr s words).toNat % 4 = 0 := by
  rw [toNat_frameAddr, if_neg (by simp [h]), Nat.mul_mod_left]

/-- A frame is a whole number of words long, so below an SP that is a multiple of 4 there is another one. -/
theorem unalignedFrameAddr_mod_four {s : State} (h : s.sp.toNat % 4 = 0) (words : BitVec 30) :
    (unalignedFrameAddr s words).toNat % 4 = 0 := by
  have hlen := toNat_fieldAt words (i := 2) (by omega)
  have hsp := s.sp.isLt
  have hfit := (fieldAt words 2).isLt
  rw [unalignedFrameAddr, BitVec.toNat_sub]
  omega

/-- The 4 bytes that the alignment bit records undo the move of the SP (R190). -/
theorem frameAddr_add_moved {s : State} (h : s.sp.toNat % 4 = 0) (words : BitVec 30) :
    frameAddr s words + (if s.seen.ccr.stkalign && frameAddr s words != unalignedFrameAddr s words then 4#32 else 0#32) =
      unalignedFrameAddr s words := by
  have hmod := unalignedFrameAddr_mod_four h words
  have hlt := (unalignedFrameAddr s words).isLt
  have haddr := toNat_frameAddr s words
  by_cases heq : frameAddr s words = unalignedFrameAddr s words
  · simp [heq]
  · have hne : (frameAddr s words).toNat ≠ (unalignedFrameAddr s words).toNat := fun e => heq (BitVec.eq_of_toNat_eq e)
    cases hal : s.seen.ccr.stkalign with
    | false => rw [hal, if_neg (by decide)] at haddr; omega
    | true =>
      rw [hal, if_pos rfl] at haddr
      refine BitVec.eq_of_toNat_eq ?_
      simp only [bne_iff_ne.mpr heq, Bool.and_self, if_true, BitVec.toNat_add, BitVec.toNat_ofNat]
      omega

/-- Settles O52: the frame's address is rounded down, by 4 at most, and the alignment bit says whether it was. -/
theorem stackAlignmentIsUndoneByTheReturn : Obligations.StackAlignmentIsUndoneByTheReturn := by
  intro s
  refine ⟨_, rfl, rfl, fun hset => frameAddr_mod_eight hset _, fun hclear => ⟨frameAddr_mod_four hclear _, by simp [hclear]⟩, fun hsp => ?_⟩
  have undone := frameAddr_add_moved hsp (Config.frameWords s.drawn)
  unfold spAfterReturn
  rw [add_right_comm]
  exact (congrArg (· + fieldAt (Config.frameWords s.drawn) 2) undone).trans (BitVec.sub_add_cancel _ _)

/-! ## NONBASETHRDENA -/

/-- An exception that is not the returning one is still active after the return. -/
theorem noneActive_of_other_active {s : State} {m : Nat} (h1 : 1 ≤ m) (h2 : m < 128) (hne : m ≠ s.ipsr.toNat)
    (hactive : s.isActive m = true) : noneActive (s.setActive s.ipsr.toNat false) = false := by
  refine Bool.eq_false_iff.mpr fun hnone => ?_
  have hm := List.all_eq_true.mp hnone m ((mem_excNumbers m).mpr ⟨h1, h2⟩)
  simp [Ne.symm hne, hactive] at hm

/-- A return to Thread mode needs a valid value, an active handler, and no other exception active or NONBASETHRDENA (R195, R314). -/
theorem returnLegal_toThread (valid : Bool) (f : Frame) (s : State) :
    returnLegal true valid f s =
      (valid && s.ipsr != 0#9 && s.isActive s.ipsr.toNat &&
        (s.seen.ccr.nonbasethrdena || noneActive (s.setActive s.ipsr.toNat false))) := rfl

/-- A return that is not legal is the usage fault INVPC (R235, R314). -/
theorem exceptionReturn_illegal {toThread valid : Bool} {f : Frame} {fs : List Frame} {s : State} (hframes : s.frames = f :: fs)
    (h : returnLegal toThread valid f s = false) (u : Option StackError) :
    exceptionReturn toThread valid u s = reportFault .invpc .none s := by
  simp [exceptionReturn, hframes, h]

/-- Settles O54: the other active exception makes the return illegal, and NONBASETHRDENA takes that check away. -/
theorem returnToThreadNeedsNoneActive : Obligations.ReturnToThreadNeedsNoneActive := by
  intro s f fs m hframes h1 h2 hne hactive
  refine ⟨fun hclear => ?_, fun hset hipsr hreturning => ?_⟩
  · have illegal : returnLegal true true f s = false := by
      rw [returnLegal_toThread, hclear, noneActive_of_other_active h1 h2 hne hactive]
      simp
    exact congrArg Host.Outcome.next (exceptionReturn_illegal hframes illegal none)
  · rw [returnLegal_toThread, hset, hreturning]
    simpa using hipsr

/-! ## SEVONPEND -/

/-- A request makes its exception pending, and no other. -/
theorem isPending_requestException {n : Nat} (hn : n < 128) (s : State) (m : Nat) :
    (requestException n s).isPending m = (s.isPending m || m == n) := by
  have kept : ∀ t : State, t.pending = s.pending → (t.setPending n true).isPending m = (s.isPending m || m == n) := by
    intro t ht
    have hm : t.isPending m = s.isPending m := by rw [State.isPending, ht]; rfl
    rw [isPending_setPending, hm]
    by_cases hnm : n = m
    · simp [hnm, hnm ▸ hn]
    · simp [hnm, Ne.symm hnm]
  unfold requestException
  dsimp only
  split
  · exact kept _ rfl
  · exact kept s rfl

/-- An interrupt that enters the pending state is an event under SEVONPEND (R182). -/
theorem requestException_signals {n : Nat} {s : State} (hirq : 16 ≤ n) (hsev : s.seen.scr.sevonpend = true) (hidle : s.isPending n = false) :
    requestException n s = (signalEvent s).setPending n true :=
  congrArg (State.setPending · n true) (if_pos ⟨hirq, hidle, hsev⟩)

/-- Without SEVONPEND, or where it was pending already, it is none. -/
theorem requestException_silent {n : Nat} {s : State} (h : s.seen.scr.sevonpend = false ∨ s.isPending n = true) :
    requestException n s = s.setPending n true := by
  refine congrArg (State.setPending · n true) (if_neg ?_)
  rintro ⟨-, hidle, hsev⟩
  rcases h with hoff | hpending
  · cases hoff.symm.trans hsev
  · cases hidle.symm.trans hpending

/-- An event wakes a processor that waits for one (R182). -/
theorem signalEvent_wakes {s : State} {d : Bool} (h : s.power = .asleep .wfe d) : (signalEvent s).power = .running := by
  simp [signalEvent, h]

theorem requestException_active (n : Nat) (s : State) : (requestException n s).active = s.active := by
  unfold requestException; dsimp only; split <;> rfl

theorem eventIrq_hasIrq {s : State} {k : Nat} (h : k < s.params.numIrq.val) : eventIrq k s = .next (requestException (16 + k) s) :=
  if_pos (decide_eq_true h)

/-- Settles O58: the line requests exception 16 + k, and whether that is an event is decided by SEVONPEND and the pending state before. -/
theorem interruptRequestPendsAndSignals : Obligations.InterruptRequestPendsAndSignals := by
  intro s k hk
  have hn : 16 + k < 128 := by have := s.params.numIrq.isLt; omega
  refine ⟨requestException (16 + k) s, eventIrq_hasIrq hk, isPending_requestException hn s, requestException_active _ s,
    fun hsev hidle => ?_, fun hsilent => ?_, (eventIrq_effect (eventIrq_hasIrq hk)).config⟩
  · rw [requestException_signals (Nat.le_add_right 16 k) hsev hidle]
    exact ⟨rfl, fun d hasleep => signalEvent_wakes hasleep⟩
  · rw [requestException_silent hsilent]
    exact ⟨rfl, rfl⟩

/-! ## DIV_0_TRP -/

/-- A fault without an address changes what can be taken by nothing but its flag, which no decision looks at. -/
theorem canTake_recordFault_none (c : Cause) (s : State) (n : Nat) : canTake (recordFault c .none s) n = canTake s n := rfl

/-- What is entered is entered from the state before, whatever flags and pending states were set on the way to the entry. -/
theorem Entered.of_same {n : Nat} {s s' t : State} (h : Entered n s' t) (hactive : s'.active = s.active) (hframes : s'.frames = s.frames)
    (hpc : s'.pc = s.pc) (hipsr : s'.ipsr = s.ipsr) (hseen : s'.seen = s.seen) (hlock : s'.lockedUp = s.lockedUp) : Entered n s t where
  ipsr := h.ipsr
  active m hm := by
    have kept : s'.isActive m = s.isActive m := by rw [State.isActive, hactive]; rfl
    exact kept ▸ h.active m hm
  notPending := h.notPending
  frame := by
    obtain ⟨f, htop, hfpc, hfexc, hsp⟩ := h.frame
    exact ⟨f, hframes ▸ htop, hpc ▸ hfpc, hipsr ▸ hfexc, hsp⟩
  vector := hseen ▸ h.vector
  handler := hseen ▸ h.handler
  running := h.running
  notLockedUp := h.notLockedUp.trans hlock

/-- A fault without an address that can be taken, and whose entry meets no error, enters its handler (R302). -/
theorem reportFault_none_entered {c : Cause} {s : State} (hlock : s.lockedUp = false) (herrors : s.entryErrors = [])
    (htake : canTake s (causeClass c) = true) : Entered (causeClass c) s (reportFault c .none s) := by
  have hclass : causeClass c < 128 := by cases c <;> decide
  have taken : reportFault c .none s =
      takeException (causeClass c) ((recordFault c .none s).setPending (causeClass c) true) := by
    unfold reportFault reportWith
    rw [if_neg (by simp [hlock])]
    exact if_pos ((canTake_recordFault_none c s _).trans htake)
  have entered := takeException_entered (s := (recordFault c .none s).setPending (causeClass c) true) hclass herrors
  rw [taken]
  exact entered.of_same rfl rfl rfl rfl rfl rfl

/-- Settles O46: DIV_0_TRP decides between the quotient and the report. -/
theorem divideByZeroTrapsOrReturnsZero : Obligations.DivideByZeroTrapsOrReturnsZero := by
  intro s
  refine ⟨fun hclear => congrArg Host.Outcome.next (if_neg (by simp [hclear])), fun hset hlock => ?_⟩
  have trapped : eventDivideByZero s = reportFault .divbyzero .none s := if_pos hset
  exact ⟨_, congrArg Host.Outcome.next trapped, rfl, reportFault_flag (c := .divbyzero) s hlock,
    (sameRecord_reportFault_none .divbyzero s).destWrite, fun herrors htake => reportFault_none_entered (c := .divbyzero) hlock herrors htake⟩

/-! ## UNALIGN_TRP, and accesses that touch the block -/

theorem alignedOrTrap_traps {traps : Bool} {size : Size} {a : Word} (hun : a.toNat % size.bytes ≠ 0) (htraps : traps = true)
    (done s : State) : alignedOrTrap traps size a done s = reportFault .unaligned .none s :=
  if_pos ⟨hun, htraps⟩

theorem alignedOrTrap_performs {traps : Bool} {size : Size} {a : Word} (h : a.toNat % size.bytes = 0 ∨ traps = false)
    (done s : State) : alignedOrTrap traps size a done s = done := by
  refine if_neg ?_
  rintro ⟨hun, htraps⟩
  rcases h with hal | hoff
  · exact hun hal
  · cases hoff.symm.trans htraps

theorem refuseInBlock_outside {a : Word} {n : Nat} (h : OutsideBlock a n) (why : Refusal) (go : Result) :
    refuseInBlock a n why go = go := by
  simp [refuseInBlock, touchesBlock_eq_false.mpr h]

theorem refuseInBlock_inside {a : Word} {n k : Nat} (hk : k < n) (h : isListed (a + BitVec.ofNat 32 k) = true) (why : Refusal)
    (go : Result) : refuseInBlock a n why go = .refused why :=
  if_pos (touchesBlock_eq_true.mpr ⟨k, hk, h⟩)

/-- What the register does not allow, by alignment or by size, is refused as such (R75). -/
theorem singleInBlock_unsupported {size : Size} {a : Word}
    (h : a.toNat % size.bytes ≠ 0 ∨ size ≠ .word ∧ isByteAccessible a = false) : singleInBlock size a = .unsupportedAccess := by
  refine if_neg ?_
  rintro ⟨hal, hsize⟩
  rcases h with hun | ⟨hword, hbyte⟩
  · exact hun hal
  · rcases hsize with hw | hb
    · exact hword hw
    · cases hbyte.symm.trans hb

/-- What it allows is an operation of the block (R100). -/
theorem singleInBlock_operation {size : Size} {a : Word} (hal : a.toNat % size.bytes = 0)
    (hsize : size = .word ∨ isByteAccessible a = true) : singleInBlock size a = .accessIsAnOperation :=
  if_pos ⟨hal, hsize⟩

/-- The trap of an unaligned access: the fault UNALIGNED, with no address (R233). -/
def TrapsUnaligned (s t : State) : Prop :=
  t = reportFault .unaligned .none s ∧ t.cfsr.unaligned = true ∧ t.mmfar = s.mmfar ∧ t.bfar = s.bfar

theorem trapsUnaligned_reportFault {s : State} (hlock : s.lockedUp = false) : TrapsUnaligned s (reportFault .unaligned .none s) :=
  have kept := sameRecord_reportFault_none .unaligned s
  ⟨rfl, reportFault_flag (c := .unaligned) s hlock, kept.mmfar, kept.bfar⟩

/-- Outside the block a data access is performed or traps (R193). -/
theorem performEvent_dataAccess_outside {size : Size} {a : Word} (h : OutsideBlock a size.bytes) (multi : Bool) (s : State) :
    performEvent (.dataAccess multi size a) s = .next (alignedOrTrap (multi || s.seen.ccr.unalignTrp) size a s s) :=
  refuseInBlock_outside h _ _

/-- So is an access of a number of words, which traps whatever UNALIGN_TRP says (R193). -/
theorem performEvent_multiAccess_outside {a : Word} {words : Nat} (h : OutsideBlock a (4 * words)) (s : State) :
    performEvent (.multiAccess a words) s = .next (alignedOrTrap true .word a s s) :=
  refuseInBlock_outside h _ _

/-- And a store that may use the write buffer (R83, R193). -/
theorem performEvent_bufferableStore_outside {size : Size} {a : Word} (h : OutsideBlock a size.bytes) (fails : Bool) (s : State) :
    performEvent (.bufferableStore size a fails) s =
      .next (alignedOrTrap s.seen.ccr.unalignTrp size a (bufferOrComplete a fails s) s) :=
  singleOutsideBlock_outside _ h

/-- A single access that touches the block is refused, whatever it would have met elsewhere (R75, R79, R100). -/
theorem performEvent_dataAccess_inside {size : Size} {a : Word} {k : Nat} (hk : k < size.bytes)
    (h : isListed (a + BitVec.ofNat 32 k) = true) (s : State) :
    performEvent (.dataAccess false size a) s = .refused (singleInBlock size a) :=
  refuseInBlock_inside hk h _ _

/-- An unaligned access traps under UNALIGN_TRP, and always where the instruction is a multi-register or doubleword one; every other changes
nothing (R193). -/
theorem dataAccess_performed_or_trapped {size : Size} {a : Word} (hout : OutsideBlock a size.bytes) (multi : Bool) (s : State) :
    (a.toNat % size.bytes = 0 ∨ multi = false ∧ s.seen.ccr.unalignTrp = false →
        performEvent (.dataAccess multi size a) s = .next s) ∧
      (a.toNat % size.bytes ≠ 0 → multi = true ∨ s.seen.ccr.unalignTrp = true → s.lockedUp = false →
        ∃ t, performEvent (.dataAccess multi size a) s = .next t ∧ TrapsUnaligned s t) := by
  rw [performEvent_dataAccess_outside hout]
  refine ⟨fun h => ?_, fun hun htraps hlock => ?_⟩
  · rw [alignedOrTrap_performs (h.imp_right fun ⟨hm, hu⟩ => by rw [hm, hu]; rfl)]
  · rw [alignedOrTrap_traps hun (by simpa using htraps)]
    exact ⟨_, rfl, trapsUnaligned_reportFault hlock⟩

theorem multiAccess_performed_or_trapped {a : Word} {words : Nat} (hout : OutsideBlock a (4 * words)) (s : State) :
    (a.toNat % 4 = 0 → performEvent (.multiAccess a words) s = .next s) ∧
      (a.toNat % 4 ≠ 0 → s.lockedUp = false →
        ∃ t, performEvent (.multiAccess a words) s = .next t ∧ TrapsUnaligned s t) := by
  rw [performEvent_multiAccess_outside hout]
  refine ⟨fun hal => ?_, fun hun hlock => ?_⟩
  · rw [alignedOrTrap_performs (size := .word) (.inl hal)]
  · rw [alignedOrTrap_traps (size := .word) hun rfl]
    exact ⟨_, rfl, trapsUnaligned_reportFault hlock⟩

/-- A store that traps is not held in the write buffer (R83, R193). -/
theorem bufferableStore_held_or_trapped {size : Size} {a : Word} (hout : OutsideBlock a size.bytes) (fails : Bool) (s : State) :
    (a.toNat % size.bytes = 0 ∨ s.seen.ccr.unalignTrp = false → s.actlr.disdefwbuf = false →
        performEvent (.bufferableStore size a fails) s = .next { s with writeBuffer := s.writeBuffer ++ [a] }) ∧
      (a.toNat % size.bytes ≠ 0 → s.seen.ccr.unalignTrp = true → s.lockedUp = false →
        ∃ t, performEvent (.bufferableStore size a fails) s = .next t ∧ TrapsUnaligned s t ∧ t.writeBuffer = s.writeBuffer) := by
  rw [performEvent_bufferableStore_outside hout]
  refine ⟨fun h hbuf => ?_, fun hun htraps hlock => ?_⟩
  · rw [alignedOrTrap_performs h, bufferOrComplete, if_neg (by simp [hbuf])]
  · rw [alignedOrTrap_traps hun htraps]
    exact ⟨_, rfl, trapsUnaligned_reportFault hlock, (evolves_reportFault (.inl rfl) s).rest.writeBuffer⟩

/-- Settles O47: outside the block the alignment decides, and one byte in it refuses every kind of access and fetch. -/
theorem unalignedAccessTraps : Obligations.UnalignedAccessTraps := by
  intro s multi size a
  refine ⟨fun hout => dataAccess_performed_or_trapped hout multi s, fun k hk hlisted => ?_,
    fun words k hk hlisted => refuseInBlock_inside hk hlisted _ _,
    fun words hout => multiAccess_performed_or_trapped hout s, fun fails hout => ?_, fun sp => ⟨fun hout => ?_, fun k hk hlisted => ?_⟩⟩
  · have refused := performEvent_dataAccess_inside hk hlisted s
    refine ⟨refuseInBlock_inside hk hlisted _ _, fun h => ?_, fun hal hsize => ?_, refuseInBlock_inside hk hlisted _ _,
      fun load => ?_, ?_, fun hword => ?_⟩
    · rw [refused, singleInBlock_unsupported h]
    · rw [refused, singleInBlock_operation hal hsize]
    · exact (singleOutsideBlock_inside _ hk hlisted).trans refused.symm
    · exact (singleOutsideBlock_inside _ hk hlisted).trans refused.symm
    · subst hword
      exact ⟨(singleOutsideBlock_inside _ hk hlisted).trans refused.symm, (singleOutsideBlock_inside _ hk hlisted).trans refused.symm⟩
  · obtain ⟨held, traps⟩ := bufferableStore_held_or_trapped hout fails s
    refine ⟨held, fun hun htraps hlock => ?_⟩
    obtain ⟨t, next, ⟨reported, flag, hmmfar, hbfar⟩, hbuf⟩ := traps hun htraps hlock
    exact ⟨t, next, reported, flag, hmmfar, hbfar, hbuf⟩
  · exact if_neg (by simp [instructionInBlock, touchesBlock_eq_false.mpr hout])
  · exact if_pos (touchesBlock_eq_true.mpr ⟨k, hk, hlisted⟩)

end Sys2Proof.Machine

/-! SHPR1 to SHPR3 and SHCSR (R200 to R217): their reads bit by bit, the lanes of the priority registers, and what their writes store. -/

namespace Sys2Proof.Machine

/-! ## Reads (R200 to R204, R210) -/

theorem bitsAre_shpr1Value (s : State) :
    BitsAre (shpr1Value s) (fieldBits 20 s.pri.pri6 ++ fieldBits 12 s.pri.pri5 ++ fieldBits 4 s.pri.pri4) :=
  ((bitsAre_fieldAt _ 20).or (bitsAre_fieldAt _ 12)).or (bitsAre_fieldAt _ 4)

theorem bitsAre_shpr2Value (s : State) : BitsAre (shpr2Value s) (fieldBits 28 s.pri.pri11) := bitsAre_fieldAt _ 28

theorem bitsAre_shpr3Value (s : State) : BitsAre (shpr3Value s) (fieldBits 28 s.pri.pri15 ++ fieldBits 20 s.pri.pri14) :=
  (bitsAre_fieldAt _ 28).or (bitsAre_fieldAt _ 20)

theorem bitsAre_shcsrValue (s : State) :
    BitsAre (shcsrValue s) [(18, s.ena.usgfault), (17, s.ena.busfault), (16, s.ena.memfault), (15, s.isPending 11), (14, s.isPending 5),
      (13, s.isPending 4), (12, s.isPending 6), (11, s.isActive 15), (10, s.isActive 14), (8, s.isActive 12), (7, s.isActive 11),
      (3, s.isActive 6), (1, s.isActive 5), (0, s.isActive 4)] :=
  bitsAre_bitAt _ 18 |>.or (bitsAre_bitAt _ 17) |>.or (bitsAre_bitAt _ 16) |>.or (bitsAre_bitAt _ 15) |>.or (bitsAre_bitAt _ 14)
    |>.or (bitsAre_bitAt _ 13) |>.or (bitsAre_bitAt _ 12) |>.or (bitsAre_bitAt _ 11) |>.or (bitsAre_bitAt _ 10)
    |>.or (bitsAre_bitAt _ 8) |>.or (bitsAre_bitAt _ 7) |>.or (bitsAre_bitAt _ 3) |>.or (bitsAre_bitAt _ 1) |>.or (bitsAre_bitAt _ 0)

/-- Settles O21: each read returns its register's value, whose bits are the priority fields. -/
theorem priorityReadsReturnTheFields : Obligations.PriorityReadsReturnTheFields := by
  intro s
  exact ⟨⟨_, ⟨_, rfl, rfl⟩, bitsAre_shpr1Value s, rfl⟩, ⟨_, ⟨_, rfl, rfl⟩, bitsAre_shpr2Value s, rfl⟩,
    ⟨_, ⟨_, rfl, rfl⟩, bitsAre_shpr3Value s, rfl⟩⟩

/-- Settles O22: the read returns the register's value, whose bits are the enables and the views. -/
theorem shcsrReadReturnsTheViews : Obligations.ShcsrReadReturnsTheViews := by
  intro s
  exact ⟨_, ⟨_, rfl, rfl⟩, bitsAre_shcsrValue s, rfl⟩

/-! ## Lane reads of SHPR1 to SHPR3 (R208) -/

/-- A lane in which none of the listed bits lies reads 0. -/
theorem BitsAre.lane_eq_zero {v : Word} {l : List (Nat × Bool)} {lo n : Nat} (h : BitsAre v l) (hn : lo + n ≤ 32)
    (hl : ∀ p ∈ l, p.1 < lo ∨ lo + n ≤ p.1) : v.extractLsb' lo n = 0#n := by
  apply BitVec.eq_of_getLsbD_eq
  intro i hi
  rw [BitVec.getLsbD_extractLsb', h (lo + i) (by omega), BitVec.getLsbD_zero, Bool.and_eq_false_imp]
  intro _
  rw [List.any_eq_false]
  intro p hp hbit
  have hpos : p.1 = lo + i := (by simpa using hbit : p.1 = lo + i ∧ p.2 = true).1
  have := hl p hp
  omega

/-- SHPR1 holds no field in its highest byte. -/
theorem shpr1Value_reserved (s : State) : (shpr1Value s).extractLsb' 24 8 = 0#8 :=
  (bitsAre_shpr1Value s).lane_eq_zero (by decide) (by simp [fieldBits, List.range_succ])

/-- SHPR2 holds none in its three lowest bytes. -/
theorem shpr2Value_reserved (s : State) {lo n : Nat} (h : lo + n ≤ 24) : (shpr2Value s).extractLsb' lo n = 0#n :=
  (bitsAre_shpr2Value s).lane_eq_zero (by omega) (by simp [fieldBits, List.range_succ]; omega)

/-- SHPR3 holds none in its lower halfword. -/
theorem shpr3Value_reserved (s : State) {lo n : Nat} (h : lo + n ≤ 16) : (shpr3Value s).extractLsb' lo n = 0#n :=
  (bitsAre_shpr3Value s).lane_eq_zero (by omega) (by simp [fieldBits, List.range_succ]; omega)

/-- A lane that reads 0 is answered with 0. -/
theorem answers_of_eq {s : State} {d e : ReadData} (h : d = e) : Answers (.next { s with readData := some d }) s e := h ▸ rfl

/-- Settles O24: a lane read returns its lane of the register's value, which is 0 where no field lies. -/
theorem priorityLaneReadsReturnTheLane : Obligations.PriorityLaneReadsReturnTheLane := by
  intro s
  have shpr1B3 : Answers (exec (.rdbShpr1B3 true) s) s (.byte 0#8) := answers_of_eq (congrArg ReadData.byte (shpr1Value_reserved s))
  have shpr2Byte (lo : Nat) (h : lo + 8 ≤ 24) :
      Answers (.next { s with readData := some (.byte ((shpr2Value s).extractLsb' lo 8)) }) s (.byte 0#8) :=
    answers_of_eq (congrArg ReadData.byte (shpr2Value_reserved s h))
  have shpr2Lo : Answers (exec (.rdhShpr2Lo true) s) s (.half 0#16) :=
    answers_of_eq (congrArg ReadData.half (shpr2Value_reserved s (by decide)))
  have shpr3Byte (lo : Nat) (h : lo + 8 ≤ 16) :
      Answers (.next { s with readData := some (.byte ((shpr3Value s).extractLsb' lo 8)) }) s (.byte 0#8) :=
    answers_of_eq (congrArg ReadData.byte (shpr3Value_reserved s h))
  have shpr3Lo : Answers (exec (.rdhShpr3Lo true) s) s (.half 0#16) :=
    answers_of_eq (congrArg ReadData.half (shpr3Value_reserved s (by decide)))
  exact ⟨shpr1Value s, shpr2Value s, shpr3Value s, rfl, rfl, rfl, rfl, rfl, rfl, shpr1B3, rfl, rfl,
    shpr2Byte 0 (by decide), shpr2Byte 8 (by decide), shpr2Byte 16 (by decide), rfl, shpr2Lo, rfl,
    shpr3Byte 0 (by decide), shpr3Byte 8 (by decide), rfl, rfl, shpr3Lo, rfl, rfl, rfl⟩

/-! ## Writes of SHPR1 to SHPR3 through a lane (R73, R201 to R206, R208)

A write of `w` bits at bit position `i` has the shifted value `fieldAt v i` and the lane mask `fieldAt (BitVec.allOnes w) i`: a byte write, a
halfword write, and with `i` = 0 a word write. The lane masks of the model are of this form by definition. -/

/-- A word write has the value written (R73). -/
theorem fieldAt_zero (v : Word) : fieldAt v 0 = v := by simp [fieldAt]

/-- The lane mask selects the bytes that lie in the lane. -/
theorem selectsByte_fieldAt_allOnes {w i lo : Nat} (h : lo + 8 ≤ 32) :
    selectsByte (fieldAt (BitVec.allOnes w) i) lo = true ↔ i ≤ lo ∧ lo + 8 ≤ i + w := by
  have bit (k : Nat) (hk : k < 8) : (fieldAt (BitVec.allOnes w) i).getLsbD (lo + k) = true ↔ i ≤ lo + k ∧ lo + k < i + w := by
    simp only [getLsbD_fieldAt, BitVec.getLsbD_allOnes, Bool.and_eq_true, decide_eq_true_eq]
    omega
  rw [selectsByte, beq_iff_eq]
  constructor
  · intro hall
    have set (k : Nat) (hk : k < 8) : (fieldAt (BitVec.allOnes w) i).getLsbD (lo + k) = true := by
      have := congrArg (fun b => b.getLsbD k) hall
      rw [BitVec.getLsbD_extractLsb', show (0xFF#8) = BitVec.allOnes 8 from rfl, BitVec.getLsbD_allOnes] at this
      simpa [hk] using this
    have first := (bit 0 (by decide)).mp (set 0 (by decide))
    have last := (bit 7 (by decide)).mp (set 7 (by decide))
    omega
  · intro hlane
    apply BitVec.eq_of_getLsbD_eq
    intro k hk
    rw [BitVec.getLsbD_extractLsb', (bit k hk).mpr (by omega), show (0xFF#8) = BitVec.allOnes 8 from rfl, BitVec.getLsbD_allOnes,
      Bool.and_true]

/-- The part of a placed value that lies in its lane is that part of the value. -/
theorem extractLsb'_fieldAt {w : Nat} (v : BitVec w) {i lo n : Nat} (hi : i ≤ lo) (h : lo + n ≤ 32) :
    (fieldAt v i).extractLsb' lo n = v.extractLsb' (lo - i) n := by
  apply BitVec.eq_of_getLsbD_eq
  intro k hk
  have hlt : lo + k < 32 := by omega
  have hle : i ≤ lo + k := by omega
  have hsub : lo + k - i = lo - i + k := by omega
  simp [hk, hlt, hle, hsub]

/-- What a priority field of the byte at position `lo` holds after a write of `v` through the lane at `i`: the upper nibble of its byte if the
lane holds that byte, and else what it held (R201, R206). -/
def storedNibble {w : Nat} (v : BitVec w) (i lo : Nat) (old : BitVec 4) : BitVec 4 :=
  if i ≤ lo ∧ lo + 8 ≤ i + w then v.extractLsb' (lo + 4 - i) 4 else old

theorem selected_eq_storedNibble {w : Nat} (v : BitVec w) (i : Nat) {lo : Nat} (h : lo + 8 ≤ 32) (old : BitVec 4) :
    (if selectsByte (fieldAt (BitVec.allOnes w) i) lo then (fieldAt v i).extractLsb' (lo + 4) 4 else old) = storedNibble v i lo old := by
  rw [storedNibble]
  by_cases hlane : i ≤ lo ∧ lo + 8 ≤ i + w
  · rw [if_pos hlane, if_pos ((selectsByte_fieldAt_allOnes h).mpr hlane), extractLsb'_fieldAt v (by omega) (by omega)]
  · rw [if_neg hlane, if_neg (mt (selectsByte_fieldAt_allOnes h).mp hlane)]

/-- A placed value carries a 1 in a reserved position of the word exactly if the value does in that position of its lane. -/
theorem lane_and_eq_zero_iff {w : Nat} (v : BitVec w) {i : Nat} (h : i + w ≤ 32) (r : Word) :
    fieldAt v i &&& fieldAt (BitVec.allOnes w) i &&& r = 0#32 ↔ v.setWidth 32 &&& (r.extractLsb' i w).setWidth 32 = 0#32 := by
  constructor
  · intro hword
    apply BitVec.eq_of_getLsbD_eq
    intro k hk
    by_cases hkw : k < w
    · have hlt : i + k < 32 := by omega
      have := congrArg (fun x => x.getLsbD (i + k)) hword
      simpa [hk, hkw, hlt] using this
    · simp [hk, hkw]
  · intro hlane
    apply BitVec.eq_of_getLsbD_eq
    intro k hk
    by_cases hik : i ≤ k
    · have hlt : k - i < 32 := by omega
      have hadd : i + (k - i) = k := by omega
      have := congrArg (fun x => x.getLsbD (k - i)) hlane
      simpa [hk, hik, hlt, hadd] using this
    · simp [hik]

/-- Of a write and its reserved positions only matters whether it carries a 1 there. -/
theorem PerformsUnlessReserved.congr {x : Result} {s t : State} {v r v' r' : Word} (h : PerformsUnlessReserved x s v r t)
    (hv : v &&& r = 0#32 ↔ v' &&& r' = 0#32) : PerformsUnlessReserved x s v' r' t :=
  ⟨fun hpass => h.1 (hpass.imp_left hv.mpr), fun hres => h.2 (mt hv.mp hres)⟩

/-- Without reserved positions the write is performed. -/
theorem PerformsUnlessReserved.performs {x : Result} {s t : State} {v : Word} (h : PerformsUnlessReserved x s v 0#32 t) : Performs x t :=
  h.1 (.inl BitVec.and_zero)

section
variable {w : Nat} (v : BitVec w) {i : Nat} (hw : i + w ≤ 32) (s : State)
include hw

/-- WR.SHPR1 through a lane (R201). -/
theorem writeShpr1_lane :
    PerformsUnlessReserved (writeShpr1 (fieldAt v i) (fieldAt (BitVec.allOnes w) i) { s with readData := none }) s (v.setWidth 32)
      (((0xFF000000#32).extractLsb' i w).setWidth 32)
      { s with pri := { s.pri with
          pri4 := storedNibble v i 0 s.pri.pri4, pri5 := storedNibble v i 8 s.pri.pri5, pri6 := storedNibble v i 16 s.pri.pri6 } } := by
  simp only [← selected_eq_storedNibble v i (show 0 + 8 ≤ 32 by decide), ← selected_eq_storedNibble v i (show 8 + 8 ≤ 32 by decide),
    ← selected_eq_storedNibble v i (show 16 + 8 ≤ 32 by decide)]
  exact (guardReserved_write_performs _ _ rfl).congr (lane_and_eq_zero_iff v hw _)

/-- WR.SHPR2 through a lane (R203). -/
theorem writeShpr2_lane :
    PerformsUnlessReserved (writeShpr2 (fieldAt v i) (fieldAt (BitVec.allOnes w) i) { s with readData := none }) s (v.setWidth 32)
      (((0x00FFFFFF#32).extractLsb' i w).setWidth 32)
      { s with pri := { s.pri with pri11 := storedNibble v i 24 s.pri.pri11 } } := by
  rw [← selected_eq_storedNibble v i (show 24 + 8 ≤ 32 by decide)]
  exact (guardReserved_write_performs _ _ rfl).congr (lane_and_eq_zero_iff v hw _)

/-- WR.SHPR3 through a lane (R205). -/
theorem writeShpr3_lane :
    PerformsUnlessReserved (writeShpr3 (fieldAt v i) (fieldAt (BitVec.allOnes w) i) { s with readData := none }) s (v.setWidth 32)
      (((0x0000FFFF#32).extractLsb' i w).setWidth 32)
      { s with pri := { s.pri with pri14 := storedNibble v i 16 s.pri.pri14, pri15 := storedNibble v i 24 s.pri.pri15 } } := by
  simp only [← selected_eq_storedNibble v i (show 16 + 8 ≤ 32 by decide), ← selected_eq_storedNibble v i (show 24 + 8 ≤ 32 by decide)]
  exact (guardReserved_write_performs _ _ rfl).congr (lane_and_eq_zero_iff v hw _)

end

/-- Settles O29: a word write is one through the lane of all four bytes. -/
theorem priorityWritesStoreTheUpperNibbles : Obligations.PriorityWritesStoreTheUpperNibbles := by
  intro s v
  have shpr1 := writeShpr1_lane v (i := 0) (by decide) s
  have shpr2 := writeShpr2_lane v (i := 0) (by decide) s
  have shpr3 := writeShpr3_lane v (i := 0) (by decide) s
  rw [fieldAt_zero v] at shpr1 shpr2 shpr3
  exact ⟨shpr1, shpr2, shpr3, rfl⟩

/-- Settles O30: each of the eighteen is the write of its register through its lane. -/
theorem priorityLaneWritesStoreTheirFields : Obligations.PriorityLaneWritesStoreTheirFields := by
  intro s
  refine ⟨fun v => ?_, fun v => ?_⟩
  · have shpr1 (k : Fin 4) := writeShpr1_lane v (i := 8 * k) (by omega) s
    have shpr2 (k : Fin 4) := writeShpr2_lane v (i := 8 * k) (by omega) s
    have shpr3 (k : Fin 4) := writeShpr3_lane v (i := 8 * k) (by omega) s
    exact ⟨(shpr1 0).performs, (shpr1 1).performs, (shpr1 2).performs, (shpr2 3).performs, (shpr3 2).performs, (shpr3 3).performs,
      shpr1 3, shpr2 0, shpr2 1, shpr2 2, shpr3 0, shpr3 1, rfl⟩
  · have shpr1 (k : Fin 3) := writeShpr1_lane v (i := 8 * k) (by omega) s
    have shpr2 (k : Fin 3) := writeShpr2_lane v (i := 8 * k) (by omega) s
    have shpr3 (k : Fin 3) := writeShpr3_lane v (i := 8 * k) (by omega) s
    exact ⟨(shpr1 0).performs, shpr1 2, shpr2 0, shpr2 2, shpr3 0, (shpr3 2).performs, rfl⟩

/-! ## WR.SHCSR (R211 to R214) -/

/-- The pended bits act on four exceptions and on no other (R213). -/
theorem isPending_shcsrPended_eq (v : Word) (s : State) (n : Nat) :
    (shcsrPended v s).isPending n =
      if n = excSvCall then v.getLsbD 15 else if n = excBusFault then v.getLsbD 14 else if n = excMemManage then v.getLsbD 13
      else if n = excUsageFault then v.getLsbD 12 else s.isPending n := by
  obtain ⟨svCall, busFault, memManage, usageFault⟩ := isPending_shcsrPended v s
  split_ifs with h11 h5 h4 h6
  · rw [h11, svCall]
  · rw [h5, busFault]
  · rw [h4, memManage]
  · rw [h6, usageFault]
  · simp [shcsrPended, Ne.symm h11, Ne.symm h5, Ne.symm h4, Ne.symm h6]

/-- The active bits act on seven (R214). -/
theorem isActive_shcsrActive_eq (v : Word) (s : State) (n : Nat) :
    (shcsrActive v s).isActive n =
      if n = excSysTick then v.getLsbD 11 else if n = excPendSv then v.getLsbD 10 else if n = excDebugMonitor then v.getLsbD 8
      else if n = excSvCall then v.getLsbD 7 else if n = excUsageFault then v.getLsbD 3 else if n = excBusFault then v.getLsbD 1
      else if n = excMemManage then v.getLsbD 0 else s.isActive n := by
  obtain ⟨sysTick, pendSv, debugMonitor, svCall, usageFault, busFault, memManage⟩ := isActive_shcsrActive v s
  split_ifs with h15 h14 h12 h11 h6 h5 h4
  · rw [h15, sysTick]
  · rw [h14, pendSv]
  · rw [h12, debugMonitor]
  · rw [h11, svCall]
  · rw [h6, usageFault]
  · rw [h5, busFault]
  · rw [h4, memManage]
  · simp [shcsrActive, Ne.symm h15, Ne.symm h14, Ne.symm h12, Ne.symm h11, Ne.symm h6, Ne.symm h5, Ne.symm h4]

/-- The pended bits change the pending states only. -/
theorem shcsrPended_eq (v : Word) (s : State) : shcsrPended v s = { s with pending := (shcsrPended v s).pending } := by
  simp only [shcsrPended, State.setPending]

/-- The active bits change the active states only. -/
theorem shcsrActive_eq (v : Word) (s : State) : shcsrActive v s = { s with active := (shcsrActive v s).active } := by
  simp only [shcsrActive, State.setActive]

/-- The state that WR.SHCSR leaves (R211). -/
def shcsrWritten (v : Word) (s : State) : State :=
  shcsrActive v (shcsrPended v { s with ena := ⟨v.getLsbD 18, v.getLsbD 17, v.getLsbD 16⟩ })

/-- It has new enables and new arrays, and nothing else is new: not IPSR, not the frames (R211, R214). -/
theorem shcsrWritten_eq (v : Word) (s : State) :
    shcsrWritten v s =
      { s with
        ena := ⟨v.getLsbD 18, v.getLsbD 17, v.getLsbD 16⟩
        pending := (shcsrPended v s).pending
        active := (shcsrActive v s).active } := by
  simp only [shcsrWritten, shcsrActive, shcsrPended, State.setActive, State.setPending]

/-- The write does not look at the data of the last access. -/
theorem shcsrWritten_readData (v : Word) (s : State) (d : Option ReadData) :
    shcsrWritten v { s with readData := d } = { shcsrWritten v s with readData := d } := by
  simp only [shcsrWritten, shcsrActive, shcsrPended, State.setActive, State.setPending]

/-- Where the reserved positions let the write through, that state is what it leaves. -/
theorem writeShcsr_performs (v : Word) (s : State) :
    PerformsUnlessReserved (exec (.wrShcsr true v) s) s v 0xFFF80274#32
      { s with
        ena := ⟨v.getLsbD 18, v.getLsbD 17, v.getLsbD 16⟩
        pending := (shcsrPended v s).pending
        active := (shcsrActive v s).active } := by
  rw [← shcsrWritten_eq]
  exact guardReserved_write_performs (f := shcsrWritten v) _ v (shcsrWritten_readData v s none)

/-- Settles O31: the arrays after the write are those that the pended and the active bits leave. -/
theorem shcsrWriteAssignsEveryBit : Obligations.ShcsrWriteAssignsEveryBit := by
  intro s v
  refine ⟨(shcsrPended v s).pending, (shcsrActive v s).active, writeShcsr_performs v s,
    fun n => ?_, fun n => ?_, rfl⟩
  · rw [← shcsrPended_eq]
    exact isPending_shcsrPended_eq v s n
  · rw [← shcsrActive_eq]
    exact isActive_shcsrActive_eq v s n

/-! ## Writing back what SHCSR reads -/

/-- Storing in an array what it holds changes nothing. -/
theorem setIfInBounds_getD {m : Nat} (a : Vector Bool m) (n : Nat) : a.setIfInBounds n (a[n]?.getD false) = a := by
  ext i hi
  by_cases h : n = i
  · subst h; simp [hi]
  · simp [h]

theorem setPending_of_eq {s : State} {n : Nat} {b : Bool} (h : b = s.isPending n) : s.setPending n b = s := by
  rw [h, State.setPending, State.isPending, setIfInBounds_getD]

theorem setActive_of_eq {s : State} {n : Nat} {b : Bool} (h : b = s.isActive n) : s.setActive n b = s := by
  rw [h, State.setActive, State.isActive, setIfInBounds_getD]

/-- The word read holds, in the pended positions, the pending states that a write of it assigns (R210, R213). -/
theorem shcsrValue_pendedBits (s : State) :
    (shcsrValue s).getLsbD 15 = s.isPending excSvCall ∧ (shcsrValue s).getLsbD 14 = s.isPending excBusFault ∧
      (shcsrValue s).getLsbD 13 = s.isPending excMemManage ∧ (shcsrValue s).getLsbD 12 = s.isPending excUsageFault := by
  simp [shcsrValue]

/-- So it does in the active positions (R210, R214). -/
theorem shcsrValue_activeBits (s : State) :
    (shcsrValue s).getLsbD 11 = s.isActive excSysTick ∧ (shcsrValue s).getLsbD 10 = s.isActive excPendSv ∧
      (shcsrValue s).getLsbD 8 = s.isActive excDebugMonitor ∧ (shcsrValue s).getLsbD 7 = s.isActive excSvCall ∧
      (shcsrValue s).getLsbD 3 = s.isActive excUsageFault ∧ (shcsrValue s).getLsbD 1 = s.isActive excBusFault ∧
      (shcsrValue s).getLsbD 0 = s.isActive excMemManage := by
  simp [shcsrValue]

/-- And in those of the enables. -/
theorem shcsrValue_enables (s : State) :
    (⟨(shcsrValue s).getLsbD 18, (shcsrValue s).getLsbD 17, (shcsrValue s).getLsbD 16⟩ : Enables) = s.ena := by
  simp [shcsrValue]

theorem shcsrPended_shcsrValue (s : State) : shcsrPended (shcsrValue s) s = s := by
  obtain ⟨svCall, busFault, memManage, usageFault⟩ := shcsrValue_pendedBits s
  rw [shcsrPended, setPending_of_eq svCall, setPending_of_eq busFault, setPending_of_eq memManage, setPending_of_eq usageFault]

theorem shcsrActive_shcsrValue (s : State) : shcsrActive (shcsrValue s) s = s := by
  obtain ⟨sysTick, pendSv, debugMonitor, svCall, usageFault, busFault, memManage⟩ := shcsrValue_activeBits s
  rw [shcsrActive, setActive_of_eq sysTick, setActive_of_eq pendSv, setActive_of_eq debugMonitor, setActive_of_eq svCall,
    setActive_of_eq usageFault, setActive_of_eq busFault, setActive_of_eq memManage]

/-- A word none of whose listed bits lies in one of the positions of `r` carries no 1 there. -/
theorem BitsAre.and_eq_zero {v r : Word} {l : List (Nat × Bool)} (h : BitsAre v l) (hr : ∀ p ∈ l, r.getLsbD p.1 = false) :
    v &&& r = 0#32 := by
  apply BitVec.eq_of_getLsbD_eq
  intro i hi
  rw [BitVec.getLsbD_and, h i hi, BitVec.getLsbD_zero, Bool.and_eq_false_imp, List.any_eq_true]
  rintro ⟨p, hp, hbit⟩
  obtain ⟨rfl, -⟩ : p.1 = i ∧ p.2 = true := by simpa using hbit
  exact hr p hp

/-- SHCSR reads 0 in its reserved positions. -/
theorem shcsrValue_reserved (s : State) : shcsrValue s &&& 0xFFF80274#32 = 0#32 :=
  (bitsAre_shcsrValue s).and_eq_zero (by simp)

/-- An access answers one word only. -/
theorem answers_word_inj {s : State} {v w : Word} (h : Answers (.next { s with readData := some (.word v) }) s (.word w)) : v = w := by
  simpa [Answers] using h

/-- Settles O37: the word read carries no reserved 1, and every bit of it is the bit it is assigned to. -/
theorem shcsrWriteBackChangesNothing : Obligations.ShcsrWriteBackChangesNothing := by
  intro s w hread
  obtain rfl : shcsrValue s = w := answers_word_inj hread
  have performed := (writeShcsr_performs (shcsrValue s) s).1 (.inl (shcsrValue_reserved s))
  rwa [shcsrValue_enables, shcsrPended_shcsrValue, shcsrActive_shcsrValue] at performed

end Sys2Proof.Machine

/-! CFSR, HFSR and the address registers as registers (R230 to R267): their reads bit by bit, and what their writes clear. -/

namespace Sys2Proof.Machine

/-! ## Reads (R230, R251, R256 to R262) -/

/-- Flags put into a word one after the other. -/
theorem BitsAre.foldl_bitAt {v : Word} {l : List (Nat × Bool)} (h : BitsAre v l) :
    ∀ m : List (Nat × Bool), BitsAre (m.foldl (fun w p => w ||| bitAt p.2 p.1) v) (l ++ m)
  | [] => by simpa using h
  | p :: m => by simpa using (h.or (bitsAre_bitAt p.2 p.1)).foldl_bitAt m

/-- A word that is made of flags has the bits of those flags. -/
theorem bitsAre_of_eq_foldl {v : Word} {k : Nat} {b : Bool} {m : List (Nat × Bool)}
    (h : v = m.foldl (fun w p => w ||| bitAt p.2 p.1) (bitAt b k)) : BitsAre v ((k, b) :: m) :=
  h ▸ (bitsAre_bitAt b k).foldl_bitAt m

theorem bitsAre_cfsrWord (f : Cfsr) :
    BitsAre (cfsrWord f) [(25, f.divbyzero), (24, f.unaligned), (19, f.nocp), (18, f.invpc), (17, f.invstate), (16, f.undefinstr),
      (15, f.bfarvalid), (13, f.lsperr), (12, f.stkerr), (11, f.unstkerr), (10, f.impreciserr), (9, f.preciserr), (8, f.ibuserr),
      (7, f.mmarvalid), (5, f.mlsperr), (4, f.mstkerr), (3, f.munstkerr), (1, f.daccviol), (0, f.iaccviol)] :=
  bitsAre_of_eq_foldl rfl

theorem bitsAre_hfsrWord (f : Hfsr) : BitsAre (hfsrWord f) [(31, f.debugVt), (30, f.forced), (1, f.vecttbl)] :=
  ((bitsAre_bitAt _ 31).or (bitsAre_bitAt _ 30)).or (bitsAre_bitAt _ 1)

/-- Settles O23: each read returns its register, whose bits are its flags, and a read leaves the state. -/
theorem faultReadsReturnTheRegisters : Obligations.FaultReadsReturnTheRegisters := by
  intro s
  refine ⟨⟨_, ⟨_, rfl, rfl⟩, rfl, bitsAre_cfsrWord s.cfsr, rfl⟩, ⟨_, ⟨_, rfl, rfl⟩, bitsAre_hfsrWord s.hfsr, rfl⟩,
    ⟨⟨_, rfl, rfl⟩, rfl⟩, ⟨⟨_, rfl, rfl⟩, rfl⟩, ⟨⟨_, rfl, rfl⟩, rfl⟩, ?_⟩
  simp only [List.forall_mem_cons]
  exact ⟨⟨_, rfl, rfl, rfl, rfl⟩, ⟨_, rfl, rfl, rfl, rfl⟩, ⟨_, rfl, rfl, rfl, rfl⟩, ⟨_, rfl, rfl, rfl, rfl⟩, ⟨_, rfl, rfl, rfl, rfl⟩,
    List.forall_mem_nil _⟩

/-- Settles O25: a lane read cuts its lane out of the word that RD.CFSR returns. -/
theorem cfsrLaneReadsReturnTheLane : Obligations.CfsrLaneReadsReturnTheLane := by
  intro s
  exact ⟨cfsrValue s, rfl, rfl, rfl, rfl, rfl, rfl, rfl, rfl, rfl⟩

/-! ## Writes of CFSR (R231, R266) -/

/-- The word made of the flags of a word is that word in the defined positions. -/
theorem cfsrWord_cfsrOfWord (w : Word) : cfsrWord (cfsrOfWord w) = w &&& cfsrDefined := by
  simp only [cfsrWord, cfsrOfWord, bitAt_getLsbD, Nat.reduceLT, ← BitVec.and_or_distrib_left]
  rfl

/-- CFSR holds no flag in its reserved positions. -/
theorem cfsrWord_and_defined (f : Cfsr) : cfsrWord f &&& cfsrDefined = cfsrWord f := by
  rw [← cfsrWord_cfsrOfWord, cfsrOfWord_cfsrWord]

theorem getLsbD_cfsrWord_and_defined (f : Cfsr) (i : Nat) :
    ((cfsrWord f).getLsbD i && cfsrDefined.getLsbD i) = (cfsrWord f).getLsbD i := by
  rw [← BitVec.getLsbD_and, cfsrWord_and_defined]

/-- A bit of CFSR after a write in the mode rc_w1: a selected 1 clears it (R231). -/
theorem getLsbD_cfsrWritten_rcW1 (f : Cfsr) (v m : Word) {i : Nat} (hi : i < 32) :
    (cfsrWord (cfsrWritten .rcW1 f v m)).getLsbD i = ((cfsrWord f).getLsbD i && !(v.getLsbD i && m.getLsbD i)) := by
  simp only [cfsrWritten, cfsrWord_cfsrOfWord, BitVec.getLsbD_and, BitVec.getLsbD_not, hi, decide_true, Bool.true_and,
    Bool.and_right_comm, getLsbD_cfsrWord_and_defined]

/-- In the mode rw: a selected bit, if it is a defined one, takes the value written (R231). -/
theorem getLsbD_cfsrWritten_rw (f : Cfsr) (v m : Word) {i : Nat} (hi : i < 32) :
    (cfsrWord (cfsrWritten .rw f v m)).getLsbD i =
      ((cfsrWord f).getLsbD i && !m.getLsbD i || v.getLsbD i && m.getLsbD i && cfsrDefined.getLsbD i) := by
  simp only [cfsrWritten, cfsrWord_cfsrOfWord, BitVec.getLsbD_and, BitVec.getLsbD_or, BitVec.getLsbD_not, hi, decide_true, Bool.true_and]
  rw [Bool.and_or_distrib_right, Bool.and_right_comm, getLsbD_cfsrWord_and_defined, Bool.and_assoc _ (cfsrDefined.getLsbD i), Bool.and_self]

/-- A write of `w` bits at position `i` acts on the flags of its lane, in either mode (R231). -/
theorem cfsrLaneWritten_cfsrWritten {w : Nat} (v : BitVec w) (i : Nat) (s : State) :
    CfsrLaneWritten s i w (v.setWidth 32)
      (cfsrWritten s.params.cfsrWrite s.cfsr (fieldAt v i) (fieldAt (BitVec.allOnes w) i)) := by
  intro j hj
  have hvalue : (fieldAt v i).getLsbD j = (decide (i ≤ j) && (v.setWidth 32).getLsbD (j - i)) := by
    have hsub : j - i < 32 := by omega
    simp [hj, hsub]
  have hmask : (fieldAt (BitVec.allOnes w) i).getLsbD j = decide (i ≤ j ∧ j < i + w) := by
    simp only [getLsbD_fieldAt, BitVec.getLsbD_allOnes, hj, decide_true, Bool.true_and, ← Bool.decide_and, decide_eq_decide]
    omega
  cases s.params.cfsrWrite with
  | rcW1 =>
    rw [getLsbD_cfsrWritten_rcW1 _ _ _ hj, hvalue, hmask]
    by_cases hlane : i ≤ j ∧ j < i + w
    · simp only [hlane, and_self, decide_true, Bool.true_and, Bool.and_true, if_true]
    · simp only [hlane, decide_false, Bool.and_false, Bool.not_false, Bool.and_true, if_false]
  | rw =>
    rw [getLsbD_cfsrWritten_rw _ _ _ hj, hvalue, hmask]
    by_cases hlane : i ≤ j ∧ j < i + w
    · simp only [hlane, and_self, decide_true, Bool.not_true, Bool.and_false, Bool.false_or, Bool.true_and, Bool.and_true, if_true]
    · simp only [hlane, decide_false, Bool.not_false, Bool.and_true, Bool.and_false, Bool.false_and, Bool.or_false, if_false]

/-- A write of CFSR through a lane changes the flags of that lane, and nothing else (R231, R266). -/
theorem writeCfsr_lane {w : Nat} (v : BitVec w) {i : Nat} (hw : i + w ≤ 32) (s : State) :
    ∃ c, CfsrLaneWritten s i w (v.setWidth 32) c ∧
      PerformsUnlessReserved (writeCfsr (fieldAt v i) (fieldAt (BitVec.allOnes w) i) { s with readData := none }) s (v.setWidth 32)
        (((0xFCF04044#32).extractLsb' i w).setWidth 32) { s with cfsr := c } :=
  ⟨_, cfsrLaneWritten_cfsrWritten v i s, (guardReserved_write_performs (f := fun t : State =>
    { t with cfsr := cfsrWritten t.params.cfsrWrite t.cfsr (fieldAt v i) (fieldAt (BitVec.allOnes w) i) }) _ _ rfl).congr
      (lane_and_eq_zero_iff v hw _)⟩

/-- The word write is the one through the lane of all four bytes. -/
theorem wrCfsr_lane (v : Word) (s : State) :
    ∃ c, CfsrLaneWritten s 0 32 v c ∧ PerformsUnlessReserved (exec (.wrCfsr true v) s) s v 0xFCF04044#32 { s with cfsr := c } := by
  have lane := writeCfsr_lane v (i := 0) (by decide) s
  rw [fieldAt_zero v] at lane
  exact lane

/-- Settles O32: each of the seven is the write of CFSR through its lane. -/
theorem cfsrWritesActOnTheirLane : Obligations.CfsrWritesActOnTheirLane := by
  intro s
  refine ⟨fun v => ?_, fun v => ?_, fun v => ?_⟩
  · obtain ⟨c, written, performed⟩ := wrCfsr_lane v s
    exact ⟨c, written, performed, rfl⟩
  · have lane (k : Fin 4) := writeCfsr_lane v (i := 8 * k) (by omega) s
    exact ⟨lane 0, lane 1, lane 2, lane 3, rfl⟩
  · have lane (k : Fin 3) := writeCfsr_lane v (i := 8 * k) (by omega) s
    exact ⟨lane 0, lane 2, rfl⟩

/-- What two writes of CFSR leave of a bit that the first writes as 1 and the second as 0: nothing, in either mode (R231). -/
theorem CfsrLaneWritten.clears {s t : State} {v : Word} {c : Cfsr} (first : CfsrLaneWritten s 0 32 v t.cfsr)
    (second : CfsrLaneWritten t 0 32 0#32 c) (hmode : t.params.cfsrWrite = s.params.cfsrWrite) : cfsrWord c &&& v = 0#32 := by
  apply BitVec.eq_of_getLsbD_eq
  intro i hi
  have after := second i hi
  have before := first i hi
  have hlane : 0 ≤ i ∧ i < 0 + 32 := by omega
  rw [if_pos hlane] at after before
  rw [hmode] at after
  rw [BitVec.getLsbD_and, BitVec.getLsbD_zero, after]
  cases hwrite : s.params.cfsrWrite with
  | rcW1 =>
    rw [hwrite] at before
    simp [before]
  | rw => simp

/-- Settles O38: neither word carries a reserved 1, so both writes are performed. -/
theorem twoWritesClearCfsrInBothModes : Obligations.TwoWritesClearCfsrInBothModes := by
  intro s v hres
  obtain ⟨c, first, performs⟩ := wrCfsr_lane v s
  obtain ⟨d, second, performs'⟩ := wrCfsr_lane 0#32 { s with cfsr := c, readData := none }
  exact ⟨_, _, performs.1 (.inl hres), performs'.1 (.inl BitVec.zero_and),
    CfsrLaneWritten.clears (t := { s with cfsr := c, readData := none }) first second rfl⟩

/-! ## Writes of HFSR, MMFAR, BFAR and AFSR (R252 to R263) -/

/-- Where no reserved position stands against it, WR.HFSR looks at DEBUG_VT (R252, R253). -/
theorem writeHfsr_passes {v : Word} {s : State} (h : v &&& 0x3FFFFFFD#32 = 0#32 ∨ s.params.reservedWrite = .ignore) :
    writeHfsr v s = if v.getLsbD 31 then .refused .unpredictableHfsr else .next { s with hfsr := hfsrWritten s.hfsr v } :=
  guardReserved_passes h _

/-- A 1 in a reserved position is refused under RESERVED_WRITE = refuse. -/
theorem writeHfsr_reserved {v : Word} {s : State} (h : v &&& 0x3FFFFFFD#32 ≠ 0#32) (hp : s.params.reservedWrite = .refuse) :
    writeHfsr v s = .refused .reservedBitWritten :=
  guardReserved_refuse h _ s hp

/-- Settles O33: the reserved positions are looked at first, then DEBUG_VT. -/
theorem hfsrWriteClearsFlags : Obligations.HfsrWriteClearsFlags := by
  intro s v
  refine ⟨fun hpass => ?_, fun hres hp => writeHfsr_reserved (s := { s with readData := none }) hres hp, rfl⟩
  have passed := writeHfsr_passes (v := v) (s := { s with readData := none }) hpass
  exact ⟨fun hclear => passed.trans (if_neg (ne_true_of_eq_false hclear)), fun hset => passed.trans (if_pos hset)⟩

/-- Settles O34: the two rules are not guarded, and store the word. -/
theorem addressRegisterWritesStoreTheWord : Obligations.AddressRegisterWritesStoreTheWord := by
  intro s v
  exact ⟨⟨rfl, rfl⟩, ⟨rfl, rfl⟩⟩

/-- A bit of AFSR after a write: a LOW input lets a 1 clear it, a HIGH one sets it or leaves it to the draw (R263, R264). -/
theorem getLsbD_afsrWritten (afsr v auxfault d : Word) {i : Nat} (hi : i < 32) :
    (afsrWritten afsr v auxfault d).getLsbD i =
      ((afsr.getLsbD i && !v.getLsbD i) || (auxfault.getLsbD i && (!v.getLsbD i || d.getLsbD i))) := by
  simp only [afsrWritten, BitVec.getLsbD_or, BitVec.getLsbD_and, BitVec.getLsbD_not, hi, decide_true, Bool.true_and]
  cases v.getLsbD i <;> simp

/-- Settles O35: the word stored is `afsrWritten`, with one value drawn. -/
theorem afsrWriteClearsBits : Obligations.AfsrWriteClearsBits := by
  intro s v
  refine ⟨afsrWritten s.afsr v s.auxfault (Config.drawWord s.drawn), rfl, fun i hi hlow => ?_, fun i hi hhigh hv => ?_, rfl⟩
  · simp only [getLsbD_afsrWritten _ _ _ _ hi, hlow, Bool.false_and, Bool.or_false]
  · simp only [getLsbD_afsrWritten _ _ _ _ hi, hhigh, hv, Bool.not_false, Bool.true_or, Bool.and_true, Bool.or_true]

/-! ## The AUXFAULT latch (R264) -/

/-- Settles O59: the level is set and latched, and not before. -/
theorem auxfaultIsLatchedWithoutAnException : Obligations.AuxfaultIsLatchedWithoutAnException := by
  intro s level rest hlock hsched
  have taken : afterFetch s = { s with schedule := rest } := by simp [afterFetch, hsched]
  have served : stepEvent (.auxfault level) (afterFetch s) = performEvent (.auxfault level) (afterFetch s) :=
    stepEvent_outside hlock (.inr rfl) (.inl nofun)
  rw [step_event hsched]
  refine served.trans ?_
  rw [taken]
  exact congrArg Host.Outcome.next (if_neg (by simp [hlock]))

end Sys2Proof.Machine

/-! Bus errors and access violations: which address they leave in BFAR and MMFAR, and what an event can do to an address register under a VALID bit
of 1 (R239 to R249, R258 to R267). -/

namespace Sys2Proof.Machine

/-! ## Precise bus errors and data violations -/

/-- Outside lock-up the report of a bus fault at `a` sets its flag, and leaves `a` in BFAR under BFARVALID (R302). -/
theorem reportFault_bus {c : Cause} (h : causeClass c = 5) (a : Word) {s : State} (hlock : s.lockedUp = false) :
    cfsrHas (reportFault c (.known a) s).cfsr c = true ∧ (reportFault c (.known a) s).cfsr.bfarvalid = true ∧
      (reportFault c (.known a) s).bfar = a := by
  obtain ⟨haddr, hvalid⟩ := recordFault_bus h a s
  have kept := sameRecord_reportFault c (.known a) s hlock
  exact ⟨reportFault_flag s hlock, kept.bfarvalid.trans hvalid, kept.bfar.trans haddr⟩

/-- That of a memory management fault leaves it in MMFAR under MMARVALID. -/
theorem reportFault_mem {c : Cause} (h : causeClass c = 4) (a : Word) {s : State} (hlock : s.lockedUp = false) :
    cfsrHas (reportFault c (.known a) s).cfsr c = true ∧ (reportFault c (.known a) s).cfsr.mmarvalid = true ∧
      (reportFault c (.known a) s).mmfar = a := by
  obtain ⟨haddr, hvalid⟩ := recordFault_mem h a s
  have kept := sameRecord_reportFault c (.known a) s hlock
  exact ⟨reportFault_flag s hlock, kept.mmarvalid.trans hvalid, kept.mmfar.trans haddr⟩

theorem recordFault_destWrite (c : Cause) (a : FaultAddr) (s : State) : (recordFault c a s).destWrite = s.destWrite := by
  obtain ⟨k, frame⟩ := recordFault_frame c a s
  rw [frame]

/-- A precise bus error that no handler ignores is reported (R191, R243). -/
theorem preciseBusError_reported {s : State} (h : -1 < currentPriority s ∨ s.seen.ccr.bfhfnmign = false) (load : Bool) (a : Word) :
    preciseBusError load a s = reportFault .preciserr (.known a) s := by
  refine if_neg ?_
  rintro ⟨hprio, hset⟩
  rcases h with habove | hclear
  · omega
  · cases hclear.symm.trans hset

/-- Settles O42: the error is reported with the address as it was requested, and the report's entry leaves the record. -/
theorem preciseBusErrorRecordsTheRequestedAddress : Obligations.PreciseBusErrorRecordsTheRequestedAddress := by
  intro s load size a hout hlock hcounts
  obtain ⟨hflag, hvalid, haddr⟩ := reportFault_bus (c := .preciserr) rfl a hlock
  refine ⟨reportFault .preciserr (.known a) s, ?_, hflag, hvalid, haddr, ?_⟩
  · rw [← preciseBusError_reported hcounts load a]
    exact singleOutsideBlock_outside _ hout
  · exact (sameRecord_reportFault .preciserr (.known a) s hlock).destWrite.trans (recordFault_destWrite _ _ s)

/-- The address recorded for a violating access is one of its bytes, and the first one where it is aligned (R258). -/
theorem violationAddr_eq (size : Size) (a : Word) (s : State) :
    ∃ d, d < size.bytes ∧ violationAddr size a s = a + BitVec.ofNat 32 d ∧ (a.toNat % size.bytes = 0 → d = 0) := by
  have hpos : 0 < size.bytes := by cases size <;> decide
  unfold violationAddr
  split
  next => exact ⟨0, hpos, (BitVec.add_zero a).symm, fun _ => rfl⟩
  next hun => exact ⟨_, Nat.mod_lt _ hpos, rfl, fun hal => absurd hal hun⟩

/-- Settles O44: the address reported is `violationAddr`. -/
theorem dataViolationRecordsAnAddressOfTheAccess : Obligations.DataViolationRecordsAnAddressOfTheAccess := by
  intro s size a hout hlock
  obtain ⟨hflag, hvalid, haddr⟩ := reportFault_mem (c := .daccviol) rfl (violationAddr size a s) (s := s.bump 1) hlock
  obtain ⟨d, hd, hbyte, hal⟩ := violationAddr_eq size a s
  refine ⟨_, singleOutsideBlock_outside _ hout, hflag, hvalid, fun haligned => ?_, d, hd, haddr.trans hbyte⟩
  rw [hal haligned, BitVec.add_zero] at hbyte
  exact haddr.trans hbyte

/-! ## Imprecise bus errors -/

/-- What an imprecise bus error leaves where the bus fault is enabled: its flag, and the bus fault pending (R242). -/
theorem performEvent_drain_enabled {s : State} {i : Nat} (hi : i < s.writeBuffer.length) (hbuf : s.actlr.disdefwbuf = false)
    (hen : s.seen.ena.busfault = true) (next : Word) :
    performEvent (.drain i true next) s =
      .next ({ s with writeBuffer := s.writeBuffer.eraseIdx i, cfsr := { s.cfsr with impreciserr := true } }.setPending 5 true) := by
  simp [performEvent, eventDrain, hi, hbuf, impreciseBusError, enabled, recordFault, cfsrSet, excBusFault, excMemManage, hen]

/-- The state from which it is escalated where the bus fault is disabled: the store has left the write buffer, the flag is set, and the PC is the
instruction's about to execute (R242, R313). -/
def impreciseDrained (i : Nat) (next : Word) (s : State) : State :=
  { s with writeBuffer := s.writeBuffer.eraseIdx i, cfsr := { s.cfsr with impreciserr := true }, pc := next }

theorem performEvent_drain_disabled {s : State} {i : Nat} (hi : i < s.writeBuffer.length) (hbuf : s.actlr.disdefwbuf = false)
    (hdis : s.seen.ena.busfault = false) (next : Word) :
    performEvent (.drain i true next) s = .next (escalateWith takeException .impreciserr (impreciseDrained i next s)) := by
  simp [performEvent, eventDrain, hi, hbuf, impreciseBusError, enabled, recordFault, cfsrSet, excBusFault, excMemManage, hdis,
    impreciseDrained]

/-- The state in which an escalated fault enters the hard fault: FORCED is set, and the hard fault pending (R303). -/
def escalated (s : State) : State := { s with hfsr := { s.hfsr with forced := true } }.setPending excHardFault true

/-- Above priority −1 that is what happens (R303). -/
theorem escalateWith_above (ent : Nat → State → State) (c : Cause) {s : State} (h : -1 < currentPriority s) :
    escalateWith ent c s = ent excHardFault (escalated s) :=
  if_neg (by omega)

/-- Escalating makes no other exception pending, nor does the entry to the hard fault. -/
theorem isPending_activate_escalated {s : State} {n : Nat} (h : n ≠ excHardFault) :
    (activate excHardFault (stackFrame (escalated s))).isPending n = s.isPending n := by
  simp only [isPending_activate, isPending_stackFrame, escalated, isPending_setPending, Ne.symm h, false_and, if_false]
  rfl

/-- At −1 and −2 a data bus error locks the processor up, unless BFHFNMIGN lets the handler ignore it (R303, R304). -/
theorem escalateWith_dataBusError (ent : Nat → State → State) {c : Cause} (hc : causeIsDataBusError c = true) {s : State}
    (h : currentPriority s ≤ -1) :
    escalateWith ent c s = { s with lockedUp := s.lockedUp || !s.seen.ccr.bfhfnmign } := by
  rw [escalateWith, if_pos h, hc, Bool.true_and]
  cases s.seen.ccr.bfhfnmign with
  | true => simp
  | false => simp [State.lockUp]

/-- Taking an exception when nothing goes wrong: the frame is stacked, and the handler is active (R311). -/
theorem takeException_of_noErrors {s : State} (h : s.entryErrors = []) (n : Nat) : takeException n s = activate n (stackFrame s) :=
  enter_nil h

/-- Settles O45: the error is pending or escalated, as the enable of the bus fault says. -/
theorem impreciseBusErrorBecomesPending : Obligations.ImpreciseBusErrorBecomesPending := by
  intro s i next hi hbuf
  refine ⟨fun hen => performEvent_drain_enabled hi hbuf hen next, fun hdis herrors hprio => ?_, fun hdis hprio => ?_⟩
  · have above := escalateWith_above takeException .impreciserr (s := impreciseDrained i next s) hprio
    have taken := takeException_of_noErrors (s := escalated (impreciseDrained i next s)) herrors excHardFault
    have entered := takeException_entered (n := excHardFault) (s := escalated (impreciseDrained i next s)) (by decide) herrors
    rw [taken] at entered
    refine ⟨_, (performEvent_drain_disabled hi hbuf hdis next).trans (congrArg _ (above.trans taken)), ?_⟩
    exact ⟨rfl, rfl, rfl, rfl, isPending_activate_escalated (by decide), entered.of_same rfl rfl rfl rfl rfl rfl⟩
  · rw [performEvent_drain_disabled hi hbuf hdis, escalateWith_dataBusError (c := .impreciserr) (s := impreciseDrained i next s) _ rfl hprio]
    rfl

end Sys2Proof.Machine

/-! What goes wrong on the way into a handler or out of it: stacking errors, vector read errors and unstacking errors (R240, R241, R247, R248, R255). -/

namespace Sys2Proof.Machine

theorem SameRecord.addressesKept {s t : State} (h : SameRecord s t) : AddressesKept s t :=
  ⟨h.bfar, h.bfarvalid, h.mmfar, h.mmarvalid⟩

/-- Everything the report of a fault that no handler can ignore does after its record: the fault is taken, the hard fault is, or the processor locks
up (R302 to R304). -/
theorem reportWith_cases (ent : Nat → State → State) {c : Cause} (hc : causeIsDataBusError c = false) (a : FaultAddr) {s : State}
    (hlock : s.lockedUp = false) :
    reportWith ent c a s = ent (causeClass c) ((recordFault c a s).setPending (causeClass c) true) ∨
      canTake (recordFault c a s) (causeClass c) = false ∧
        (reportWith ent c a s = ent excHardFault (escalated (recordFault c a s)) ∨ reportWith ent c a s = (recordFault c a s).lockUp) := by
  unfold reportWith
  rw [if_neg (by simp [hlock])]
  dsimp only
  split
  next => exact .inl rfl
  next hcan =>
    refine .inr ⟨Bool.eq_false_iff.mpr hcan, ?_⟩
    by_cases hprio : -1 < currentPriority (recordFault c a s)
    · exact .inl (escalateWith_above ent c hprio)
    · exact .inr (by simp [escalateWith, Int.not_lt.mp hprio, hc])

/-! ## Unstacking errors (R241, R248) -/

/-- An entry chained to a failed return stacks nothing, when nothing goes wrong with it. -/
theorem chainException_of_noErrors {s : State} (h : s.entryErrors = []) (n : Nat) : chainException n s = activate n s :=
  enter_nil h

theorem unstackingCause_not_dataBusError (k : StackError) : causeIsDataBusError (unstackingCause k) = false := by cases k <;> rfl

/-- The record of an unstacking error, in the state in which the returning exception is no longer active (log 25). -/
def unstackingFailed (k : StackError) (s : State) : State := recordFault (unstackingCause k) .none (s.setActive s.ipsr.toNat false)

theorem unstackingFailed_frames (k : StackError) (s : State) : (unstackingFailed k s).frames = s.frames := by
  simp [unstackingFailed, recordFault]

theorem unstackingFailed_sp (k : StackError) (s : State) : (unstackingFailed k s).sp = s.sp := by
  simp [unstackingFailed, recordFault]

/-- After the record a legal return whose unstacking fails enters a handler, with no new frame, or locks the processor up. -/
theorem exceptionReturn_unstackingError {toThread : Bool} {f : Frame} {fs : List Frame} {s : State} (hframes : s.frames = f :: fs)
    (hlegal : returnLegal toThread true f s = true) (hlock : s.lockedUp = false) (herrors : s.entryErrors = []) (k : StackError) :
    exceptionReturn toThread true (some k) s =
        activate (causeClass (unstackingCause k)) ((unstackingFailed k s).setPending (causeClass (unstackingCause k)) true) ∨
      canTake (s.setActive s.ipsr.toNat false) (causeClass (unstackingCause k)) = false ∧
        (exceptionReturn toThread true (some k) s = activate excHardFault (escalated (unstackingFailed k s)) ∨
          exceptionReturn toThread true (some k) s = (unstackingFailed k s).lockUp) := by
  have returned : exceptionReturn toThread true (some k) s =
      reportWith chainException (unstackingCause k) .none (s.setActive s.ipsr.toNat false) := by
    simp [exceptionReturn, hframes, hlegal]
  have chained (n : Nat) (t : State) (ht : t.entryErrors = s.entryErrors) : chainException n t = activate n t :=
    chainException_of_noErrors (ht.trans herrors) n
  rw [returned]
  rcases reportWith_cases chainException (unstackingCause_not_dataBusError k) .none
    (s := s.setActive s.ipsr.toNat false) hlock with taken | ⟨hcan, hard | locked⟩
  · exact .inl (taken.trans (chained _ _ rfl))
  · exact .inr ⟨hcan, .inl (hard.trans (chained _ _ rfl))⟩
  · exact .inr ⟨hcan, .inr locked⟩

/-- Settles O55: whatever becomes of the report, it leaves the frames and the SP. -/
theorem unstackingErrorIsChained : Obligations.UnstackingErrorIsChained := by
  intro s toThread f fs k hframes hlegal hlock herrors
  have kept := (sameRecord_exceptionReturn toThread true (some k) s).addressesKept
  have flag : cfsrHas (unstackingFailed k s).cfsr (unstackingCause k) = true := recordFault_flag _ _ _
  have hstack := unstackingFailed_frames k s
  have hsp := unstackingFailed_sp k s
  have hclass : causeClass (unstackingCause k) < 128 := by cases k <;> decide
  refine ⟨exceptionReturn toThread true (some k) s, rfl, ?_⟩
  rcases exceptionReturn_unstackingError hframes hlegal hlock herrors k with taken | ⟨hcan, hard | locked⟩
  · rw [taken] at kept ⊢
    exact ⟨flag, hstack, hsp, kept, fun _ => ⟨rfl, by simp [hclass]⟩⟩
  · rw [hard] at kept ⊢
    exact ⟨flag, hstack, hsp, kept, fun htake => by cases hcan.symm.trans htake⟩
  · rw [locked] at kept ⊢
    exact ⟨flag, hstack, hsp, kept, fun htake => by cases hcan.symm.trans htake⟩

/-! ## Stacking errors (R240, R247) -/

theorem stackingCause_not_dataBusError (k : StackError) : causeIsDataBusError (stackingCause k) = false := by cases k <;> rfl

/-- The state in which a stacking error of the entry to `n` is reported: the frame is on the stack, unspecified, and the handler is active (log 22). -/
def stackedWithError (n : Nat) (s : State) : State := activate n (spoilFrame (stackFrame { s with entryErrors := [] }))

/-- The unspecified frame stands where the frame of an entry without an error does, and is as long. -/
theorem stackedWithError_frame (n : Nat) (s : State) :
    ∃ f, f.addr = (stackFrame s).sp ∧ f.addr = frameAddr s f.words ∧ (stackedWithError n s).frames = f :: s.frames ∧
      (stackedWithError n s).sp = f.addr :=
  ⟨_, rfl, rfl, rfl, rfl⟩

theorem stackedWithError_seen (n : Nat) (s : State) : (stackedWithError n s).seen = s.seen :=
  ((evolves_spoilFrame (stackFrame { s with entryErrors := [] })).rest.seen :)

/-- The record of the error, in that state. -/
def stackingFailed (k : StackError) (n : Nat) (s : State) : State := recordFault (stackingCause k) .none (stackedWithError n s)

/-- The last entry that the errors to come allow for meets none of them. -/
theorem enter_zero (n : Nat) (s : State) : enter 0 false n s = activate n (stackFrame s) := rfl

/-- After the record an entry that meets one stacking error, and nothing else, enters a second handler, with a frame of its own, or locks the
processor up. -/
theorem takeException_stackingError {s : State} {k : StackError} (h : s.entryErrors = [⟨[k], false, false⟩]) (hlock : s.lockedUp = false)
    (n : Nat) :
    takeException n s =
        activate (causeClass (stackingCause k)) (stackFrame ((stackingFailed k n s).setPending (causeClass (stackingCause k)) true)) ∨
      takeException n s = activate excHardFault (stackFrame (escalated (stackingFailed k n s))) ∨
      takeException n s = (stackingFailed k n s).lockUp := by
  have reported : takeException n s = reportWith (enter 0 false) (stackingCause k) .none (stackedWithError n s) := by
    rw [takeException, h, List.length_singleton, enter_cons h]
    rfl
  rw [reported, ← enter_zero, ← enter_zero]
  exact (reportWith_cases (enter 0 false) (stackingCause_not_dataBusError k) .none (s := stackedWithError n s) hlock).imp_right And.right

/-- Where a frame is placed depends on the SP and on STKALIGN (R190). -/
theorem frameAddr_congr {s t : State} (hsp : t.sp = s.sp) (hseen : t.seen = s.seen) (words : BitVec 30) :
    frameAddr t words = frameAddr s words := by
  simp only [frameAddr, hsp, hseen]

/-- The frame of an entry from a state whose newest frame is `f` stands below `f`. -/
theorem activate_stackFrame_below (m : Nat) (s t : State) {f : Frame} (hframes : t.frames = f :: s.frames) (hsp : t.sp = f.addr)
    (hseen : t.seen = s.seen) :
    ∃ g : Frame, (activate m (stackFrame t)).frames = g :: f :: s.frames ∧ (activate m (stackFrame t)).sp = g.addr ∧
      g.addr = frameAddr { s with sp := f.addr } g.words :=
  ⟨_, congrArg (_ :: ·) hframes, rfl, frameAddr_congr (s := { s with sp := f.addr }) hsp hseen _⟩

/-- Settles O56: the entry that follows, if there is one, stacks its frame below the unspecified one. -/
theorem stackingErrorStillAdjustsTheSp : Obligations.StackingErrorStillAdjustsTheSp := by
  intro s n k hlock herrors
  have kept : AddressesKept s (takeException n s) := (sameRecord_enter s.entryErrors.length false n s).addressesKept
  have flag : cfsrHas (stackingFailed k n s).cfsr (stackingCause k) = true := recordFault_flag _ _ _
  have hseen : (stackingFailed k n s).seen = s.seen := (recordFault_seen _ _ _).trans (stackedWithError_seen n s)
  obtain ⟨f, haddr, hrule, hframes, hsp⟩ := stackedWithError_frame n s
  have below (m : Nat) (t : State) := activate_stackFrame_below m s t (f := f)
  rcases takeException_stackingError herrors hlock n with taken | hard | locked
  · rw [taken] at kept ⊢
    exact ⟨flag, kept, f, haddr, hrule, .inr (below _ ((stackingFailed k n s).setPending _ true) hframes hsp hseen)⟩
  · rw [hard] at kept ⊢
    exact ⟨flag, kept, f, haddr, hrule, .inr (below _ (escalated (stackingFailed k n s)) hframes hsp hseen)⟩
  · rw [locked] at kept ⊢
    exact ⟨flag, kept, f, haddr, hrule, .inl ⟨hframes, hsp⟩⟩

/-! ## Vector read errors (R255) -/

/-- The state in which the hard fault is entered where a vector read fails, with nothing more to go wrong: VECTTBL is set (R255). -/
def vectorFailed (s : State) : State := { s with hfsr := { s.hfsr with vecttbl := true }, entryErrors := [] }

/-- Where the vector of `n` cannot be read the hard fault is taken in place of `n` (R255, log 23). -/
theorem takeException_vectorError {s : State} {n : Nat} (hn : n ≠ excHardFault) (hprio : -1 < currentPriority s)
    (h : s.entryErrors = [⟨[], true, false⟩]) : takeException n s = takeException excHardFault (vectorFailed s) := by
  have hgo : ¬ (currentPriority s ≤ -1 ∨ n = excHardFault) := by omega
  rw [takeException, h, List.length_singleton, enter_cons h, takeException_of_noErrors rfl]
  exact if_neg hgo

/-- Where the hard fault's vector cannot be read either the processor locks up, with the frame on the stack (R304, log 23). -/
theorem takeException_vectorErrorTwice {s : State} {n : Nat} (hn : n ≠ excHardFault) (hprio : -1 < currentPriority s)
    (h : s.entryErrors = [⟨[], true, true⟩]) :
    takeException n s = (fetchVector excHardFault (stackFrame (vectorFailed s))).lockUp := by
  have hgo : ¬ (currentPriority s ≤ -1 ∨ n = excHardFault) := by omega
  rw [takeException, h, List.length_singleton, enter_cons h]
  exact if_neg hgo

/-- Settles O57: the entry is that of the hard fault, or the frame is all that is left of it. -/
theorem vectorErrorEntersTheHardFault : Obligations.VectorErrorEntersTheHardFault := by
  intro s n hn hprio
  refine ⟨fun herrors => ?_, fun herrors => ?_⟩
  · have entered := takeException_entered (n := excHardFault) (s := vectorFailed s) (by decide) rfl
    rw [takeException_vectorError hn hprio herrors]
    rw [takeException_of_noErrors (s := vectorFailed s) rfl] at entered ⊢
    refine ⟨rfl, rfl, entered.of_same rfl rfl rfl rfl rfl rfl, fun m hm => ?_⟩
    rw [isPending_activate, if_neg fun h => hm h.1.symm]
    rfl
  · rw [takeException_vectorErrorTwice hn hprio herrors]
    exact ⟨rfl, rfl, rfl, rfl, rfl, rfl⟩

end Sys2Proof.Machine

/-! BFAR and MMFAR under a VALID bit of 1 (R267, R324, R392): only an event that reports an address changes them, and to that address. -/

namespace Sys2Proof.Machine

/-! ## The relation: the address registers stay -/

/-- BFAR and MMFAR are those of `s`. -/
def SameAddr (s t : State) : Prop := t.bfar = s.bfar ∧ t.mmfar = s.mmfar

namespace SameAddr

theorem refl (s : State) : SameAddr s s := ⟨rfl, rfl⟩

theorem trans {s t u : State} (h : SameAddr s t) (k : SameAddr t u) : SameAddr s u := ⟨k.1.trans h.1, k.2.trans h.2⟩

end SameAddr

theorem SameRecord.sameAddr {s t : State} (h : SameRecord s t) : SameAddr s t := ⟨h.bfar, h.mmfar⟩

theorem sameAddr_latchAuxfault (s : State) : SameAddr s (latchAuxfault s) := by unfold latchAuxfault; split <;> exact ⟨rfl, rfl⟩

theorem sameAddr_latchBefore (e : Event) (s : State) : SameAddr s (latchBefore e s) := by
  unfold latchBefore
  split
  · exact .refl s
  · exact sameAddr_latchAuxfault s

theorem sameAddr_requestException (n : Nat) (s : State) : SameAddr s (requestException n s) := by
  unfold requestException; dsimp only; split <;> exact ⟨rfl, rfl⟩

theorem sameAddr_eventWfe (s : State) : SameAddr s (eventWfe s) := by
  unfold eventWfe
  split
  · dsimp only; split <;> exact ⟨rfl, rfl⟩
  · exact ⟨rfl, rfl⟩

theorem sameAddr_eventAutoFpca (v : Bool) (s : State) : SameAddr s (eventAutoFpca v s) := by
  unfold eventAutoFpca; split <;> exact ⟨rfl, rfl⟩

theorem sameAddr_eventIrq {k : Nat} {s t : State} (h : eventIrq k s = .next t) : SameAddr s t := by
  unfold eventIrq at h
  split at h <;> cases h
  exact sameAddr_requestException _ s

theorem sameAddr_eventIrqClear {k : Nat} {s t : State} (h : eventIrqClear k s = .next t) : SameAddr s t := by
  unfold eventIrqClear at h
  split at h <;> cases h
  exact ⟨rfl, rfl⟩

theorem sameAddr_eventNvic {k : Nat} {en : Bool} {p : BitVec 4} {s t : State} (h : eventNvic k en p s = .next t) : SameAddr s t := by
  unfold eventNvic at h
  split at h <;> cases h
  exact ⟨rfl, rfl⟩

theorem sameAddr_eventStir {priv : Bool} {k : Nat} {s t : State} (h : eventStir priv k s = .next t) : SameAddr s t := by
  unfold eventStir at h
  split at h
  · exact sameAddr_eventIrq h
  · cases h

theorem sameAddr_eventCore {pc sp : Word} {s t : State} (h : eventCore pc sp s = .next t) : SameAddr s t := by
  unfold eventCore at h
  split at h <;> cases h
  exact ⟨rfl, rfl⟩

/-- A reported fault without an address. -/
theorem sameAddr_reportFault_none (c : Cause) (s : State) : SameAddr s (reportFault c .none s) :=
  (sameRecord_reportFault_none c s).sameAddr

theorem sameAddr_eventDivideByZero (s : State) : SameAddr s (eventDivideByZero s) := by
  unfold eventDivideByZero
  split
  · exact sameAddr_reportFault_none _ s
  · exact ⟨rfl, rfl⟩

theorem sameAddr_alignedOrTrap (traps : Bool) (size : Size) (a : Word) (s : State) : SameAddr s (alignedOrTrap traps size a s s) := by
  rcases alignedOrTrap_cases traps size a s s with ⟨-, -, trapped⟩ | ⟨-, performed⟩
  · rw [trapped]; exact sameAddr_reportFault_none _ s
  · rw [performed]; exact .refl s

theorem sameAddr_eventTakeException (m : Bool) (next : Word) (s : State) : SameAddr s (eventTakeException m next s) := by
  unfold eventTakeException
  split
  · exact .refl s
  · split
    next => exact .refl s
    next n _ =>
      have taken := sameRecord_enter s.entryErrors.length false n { s with pc := next }
      exact ⟨taken.bfar, taken.mmfar⟩

/-- A store that drains, with an imprecise bus error or without, has no address to record (R242). -/
theorem sameAddr_eventDrain {i : Nat} {fails : Bool} {next : Word} {s t : State} (h : eventDrain i fails next s = .next t) :
    SameAddr s t := by
  have completed : SameAddr s { s with writeBuffer := s.writeBuffer.eraseIdx i } := ⟨rfl, rfl⟩
  unfold eventDrain at h
  split at h
  · dsimp only at h
    split at h
    · split at h <;> cases h
      exact completed.trans (sameRecord_impreciseBusError next _).sameAddr
    · cases h; exact completed
  · cases h; exact .refl s

/-- What is refused in the block leaves elsewhere what the access leaves. -/
theorem refuseInBlock_sameAddr {a : Word} {n : Nat} {why : Refusal} {done s t : State} (hd : SameAddr s done)
    (h : refuseInBlock a n why (.next done) = .next t) : SameAddr s t := by
  obtain ⟨-, hgo⟩ := refuseInBlock_next h
  cases hgo
  exact hd

/-! ## The faults that report an address -/

/-- The event `e` is, in the state `s`, a fault of cause `c` that reports the address `a`: a precise bus error, a store that fails with the write
buffer disabled, a data access violation at one of its bytes, or an error of lazy state preservation, whose address may be recorded or not
(R239, R243, R246, R249, R258). -/
inductive ReportsAddress (s : State) : Event → Cause → FaultAddr → Prop
  | busError (load : Bool) (size : Size) (a : Word) : ReportsAddress s (.busError load size a) .preciserr (.known a)
  | unbuffered (size : Size) (a : Word) (h : s.actlr.disdefwbuf = true) :
      ReportsAddress s (.bufferableStore size a true) .preciserr (.known a)
  | violation (size : Size) (a : Word) (d : Nat) (hd : d < size.bytes) (hal : a.toNat % size.bytes = 0 → d = 0) :
      ReportsAddress s (.dataViolation size a) .daccviol (.known (a + BitVec.ofNat 32 d))
  | lazyBusError (a : Word) : ReportsAddress s (.lazyBusError a) .lsperr (.unspecified a)
  | lazyViolation (a : Word) : ReportsAddress s (.lazyViolation a) .mlsperr (.unspecified a)

/-- What a fault of cause `c` that reports `a` leaves: its flag, and in each address register what stood there before, anything under a VALID bit
of 0, or, in that of its class, the address (R302, R267). -/
structure AddressLeft (c : Cause) (a : FaultAddr) (s t : State) : Prop where
  flag : cfsrHas t.cfsr c = true
  bfar : t.bfar = s.bfar ∨ t.cfsr.bfarvalid = false ∨ causeClass c = 5 ∧ (a = .known t.bfar ∨ a = .unspecified t.bfar)
  mmfar : t.mmfar = s.mmfar ∨ t.cfsr.mmarvalid = false ∨ causeClass c = 4 ∧ (a = .known t.mmfar ∨ a = .unspecified t.mmfar)

theorem addressLeft_recordFault (c : Cause) (a : FaultAddr) (s : State) : AddressLeft c a s (recordFault c a s) :=
  ⟨recordFault_flag c a s, recordFault_bfar_cases c a s, recordFault_mmfar_cases c a s⟩

/-- The report leaves what its record leaves. -/
theorem addressLeft_reportFault (c : Cause) (a : FaultAddr) {s : State} (hlock : s.lockedUp = false) :
    AddressLeft c a s (reportFault c a s) := by
  have kept := sameRecord_reportFault c a s hlock
  refine ⟨reportFault_flag s hlock, ?_, ?_⟩
  · rw [kept.bfar, kept.bfarvalid]; exact recordFault_bfar_cases c a s
  · rw [kept.mmfar, kept.mmarvalid]; exact recordFault_mmfar_cases c a s

/-- The state that it leaves does not depend on other fields of the state before. -/
theorem AddressLeft.of_sameAddr {c : Cause} {a : FaultAddr} {s s' t : State} (h : AddressLeft c a s' t) (k : SameAddr s s') :
    AddressLeft c a s t := by
  obtain ⟨hflag, hbfar, hmmfar⟩ := h
  rw [k.1] at hbfar
  rw [k.2] at hmmfar
  exact ⟨hflag, hbfar, hmmfar⟩

/-- A precise bus error that is ignored without a record leaves the registers, and every other leaves its record (R191, R243). -/
theorem preciseBusError_addr (load : Bool) (a : Word) {s : State} (hlock : s.lockedUp = false) :
    SameAddr s (preciseBusError load a s) ∨ AddressLeft .preciserr (.known a) s (preciseBusError load a s) := by
  unfold preciseBusError
  split
  next =>
    obtain ⟨k, w, frame, -⟩ := ignoredLoad_frame load a s
    rw [frame]
    rcases ignoredBusError_cases a s with ⟨d, unrecorded, -⟩ | ⟨d, recorded, -⟩
    · rw [unrecorded]; exact .inl ⟨rfl, rfl⟩
    · have left := addressLeft_recordFault .preciserr (.known a) (s.bump d)
      rw [recorded]
      exact .inr ⟨left.flag, left.bfar, left.mmfar⟩
  next => exact .inr (addressLeft_reportFault .preciserr (.known a) hlock)

/-- A fault of lazy state preservation leaves its record (R239, R246). -/
theorem eventLazyFault_addr (c : Cause) (a : Word) {s : State} (hlock : s.lockedUp = false) :
    AddressLeft c (.unspecified a) s (eventLazyFault c a s) :=
  (addressLeft_reportFault c (.unspecified a) (s := { s with pc := Config.drawWord s.drawn, drawn := s.drawn + 1 }) hlock).of_sameAddr
    ⟨rfl, rfl⟩

/-- A data access violation leaves its record, at one of the bytes of the access (R249, R258). -/
theorem dataViolation_addr (size : Size) (a : Word) {s : State} (hlock : s.lockedUp = false) :
    ∃ d, d < size.bytes ∧ (a.toNat % size.bytes = 0 → d = 0) ∧
      AddressLeft .daccviol (.known (a + BitVec.ofNat 32 d)) s (dataViolation size a s) := by
  obtain ⟨d, hd, hbyte, hal⟩ := violationAddr_eq size a s
  refine ⟨d, hd, hal, ?_⟩
  rw [← hbyte]
  exact (addressLeft_reportFault .daccviol _ (s := s.bump 1) hlock).of_sameAddr ⟨rfl, rfl⟩

/-- A store that may be buffered reports an address only if it fails with the write buffer disabled (R125). -/
theorem eventBufferableStore_addr {size : Size} {a : Word} {fails : Bool} {s t : State} (hlock : s.lockedUp = false)
    (h : eventBufferableStore size a fails s = .next t) :
    SameAddr s t ∨ fails = true ∧ s.actlr.disdefwbuf = true ∧ AddressLeft .preciserr (.known a) s t := by
  obtain ⟨-, rfl⟩ := singleOutsideBlock_next h
  rcases alignedOrTrap_cases s.seen.ccr.unalignTrp size a (bufferOrComplete a fails s) s with ⟨-, -, trapped⟩ | ⟨-, performed⟩
  · rw [trapped]; exact .inl (sameAddr_reportFault_none _ s)
  · rw [performed, bufferOrComplete]
    split
    next hbuf =>
      split
      next hfails => exact (preciseBusError_addr false a hlock).imp_right fun left => ⟨hfails, hbuf, left⟩
      next => exact .inl (.refl s)
    next => exact .inl ⟨rfl, rfl⟩

/-! ## Every event -/

/-- Everything an event but reset can do to the address registers. -/
theorem performEvent_addr {e : Event} {s t : State} (he : e ≠ .reset) (hlock : s.lockedUp = false) (h : performEvent e s = .next t) :
    SameAddr s t ∨ ∃ c a, ReportsAddress s e c a ∧ AddressLeft c a s t := by
  cases e with
  | reset => exact absurd rfl he
  | busError load size a =>
    obtain ⟨-, rfl⟩ := singleOutsideBlock_next h
    exact (preciseBusError_addr load a hlock).imp_right fun left => ⟨_, _, .busError load size a, left⟩
  | bufferableStore size a fails =>
    rcases eventBufferableStore_addr hlock h with kept | ⟨rfl, hbuf, left⟩
    · exact .inl kept
    · exact .inr ⟨_, _, .unbuffered size a hbuf, left⟩
  | dataViolation size a =>
    obtain ⟨-, rfl⟩ := singleOutsideBlock_next h
    obtain ⟨d, hd, hal, left⟩ := dataViolation_addr size a hlock
    exact .inr ⟨_, _, .violation size a d hd hal, left⟩
  | lazyBusError a =>
    obtain ⟨-, rfl⟩ := singleOutsideBlock_next h
    exact .inr ⟨_, _, .lazyBusError a, eventLazyFault_addr .lsperr a hlock⟩
  | lazyViolation a =>
    obtain ⟨-, rfl⟩ := singleOutsideBlock_next h
    exact .inr ⟨_, _, .lazyViolation a, eventLazyFault_addr .mlsperr a hlock⟩
  | auxfault level => cases h; exact .inl (sameAddr_latchAuxfault { s with auxfault := level })
  | nmi | sysTick | svc => cases h; exact .inl (sameAddr_requestException _ s)
  | irq => exact .inl (sameAddr_eventIrq h)
  | irqClear => exact .inl (sameAddr_eventIrqClear h)
  | nvic => exact .inl (sameAddr_eventNvic h)
  | stir => exact .inl (sameAddr_eventStir h)
  | core => exact .inl (sameAddr_eventCore h)
  | autoFpca v => cases h; exact .inl (sameAddr_eventAutoFpca v s)
  | wfe => cases h; exact .inl (sameAddr_eventWfe s)
  | observe | masks | externalEvent | sev | wfi | prefetchError | entryErrors => cases h; exact .inl ⟨rfl, rfl⟩
  | divideByZero => cases h; exact .inl (sameAddr_eventDivideByZero s)
  | coprocessor | illegalEpsr | undefinedInstr => cases h; exact .inl (sameAddr_reportFault_none _ s)
  | issueError | fetchViolation => exact .inl (refuseInBlock_sameAddr (sameAddr_reportFault_none _ s) h)
  | dataAccess | multiAccess => exact .inl (refuseInBlock_sameAddr (sameAddr_alignedOrTrap _ _ _ s) h)
  | fetch => exact .inl (refuseInBlock_sameAddr (.refl s) h)
  | drain => exact .inl (sameAddr_eventDrain h)
  | takeException m next => cases h; exact .inl (sameAddr_eventTakeException m next s)
  | exceptionReturn th v u => cases h; exact .inl (sameRecord_exceptionReturn th v u s).sameAddr

/-- So it is for the event that a step serves: in lock-up nothing is reported (R304). -/
theorem stepEvent_addr {e : Event} {s t : State} (he : e ≠ .reset) (h : stepEvent e s = .next t) :
    SameAddr s t ∨ ∃ c a, ReportsAddress s e c a ∧ AddressLeft c a s t := by
  rcases stepEvent_next h with ⟨-, hreset, -⟩ | ⟨-, -, rfl⟩ | ⟨hlock, -, -, performed⟩
  · exact absurd hreset he
  · exact .inl (.refl _)
  · exact performEvent_addr he hlock performed

/-- A valid BFAR that has changed holds the address of a fault of the bus class. -/
theorem ReportsAddress.bfar {s t : State} {e : Event} {c : Cause} {a : FaultAddr} (h : ReportsAddress s e c a) (left : AddressLeft c a s t)
    (hvalid : t.cfsr.bfarvalid = true) (hchanged : t.bfar ≠ s.bfar) :
    ((∃ load size, e = .busError load size t.bfar) ∨ (∃ size, e = .bufferableStore size t.bfar true) ∧ s.actlr.disdefwbuf = true) ∧
        t.cfsr.preciserr = true ∨
      e = .lazyBusError t.bfar ∧ t.cfsr.lsperr = true := by
  obtain ⟨hflag, hbfar, -⟩ := left
  obtain ⟨hclass, haddr⟩ := (hbfar.resolve_left hchanged).resolve_left (by simp [hvalid])
  cases h with
  | busError load size a =>
    obtain rfl : a = t.bfar := by simpa using haddr
    exact .inl ⟨.inl ⟨load, size, rfl⟩, hflag⟩
  | unbuffered size a hbuf =>
    obtain rfl : a = t.bfar := by simpa using haddr
    exact .inl ⟨.inr ⟨⟨size, rfl⟩, hbuf⟩, hflag⟩
  | lazyBusError a =>
    obtain rfl : a = t.bfar := by simpa using haddr
    exact .inr ⟨rfl, hflag⟩
  | violation | lazyViolation => cases hclass

/-- A valid MMFAR that has changed holds an address of a fault of the memory management class. -/
theorem ReportsAddress.mmfar {s t : State} {e : Event} {c : Cause} {a : FaultAddr} (h : ReportsAddress s e c a) (left : AddressLeft c a s t)
    (hvalid : t.cfsr.mmarvalid = true) (hchanged : t.mmfar ≠ s.mmfar) :
    (∃ size a d, e = .dataViolation size a ∧ d < size.bytes ∧ t.mmfar = a + BitVec.ofNat 32 d ∧ (a.toNat % size.bytes = 0 → d = 0)) ∧
        t.cfsr.daccviol = true ∨
      e = .lazyViolation t.mmfar ∧ t.cfsr.mlsperr = true := by
  obtain ⟨hflag, -, hmmfar⟩ := left
  obtain ⟨hclass, haddr⟩ := (hmmfar.resolve_left hchanged).resolve_left (by simp [hvalid])
  cases h with
  | violation size a d hd hal =>
    have hbyte : a + BitVec.ofNat 32 d = t.mmfar := by simpa using haddr
    exact .inl ⟨⟨size, a, d, rfl, hd, hbyte.symm, hal⟩, hflag⟩
  | lazyViolation a =>
    obtain rfl : a = t.mmfar := by simpa using haddr
    exact .inr ⟨rfl, hflag⟩
  | busError | unbuffered | lazyBusError => cases hclass

/-- Settles O14: an event leaves both registers, or it reports an address, and that is what a valid register then holds. -/
theorem validAddressChangesOnlyWithItsOwnFault : Obligations.ValidAddressChangesOnlyWithItsOwnFault := by
  intro s t e rest hsched he hstep
  rw [step_event hsched] at hstep
  have served := (afterFetch_effect s).trans (latchBefore_effect e _)
  obtain ⟨hbfar, hmmfar⟩ := SameAddr.trans (s := s) (t := afterFetch s) ⟨rfl, rfl⟩ (sameAddr_latchBefore e _)
  rw [← hbfar, ← hmmfar, ← served.config.actlr]
  rcases stepEvent_addr he hstep with ⟨hb, hm⟩ | ⟨c, a, reports, left⟩
  · exact ⟨fun _ hchanged => absurd hb hchanged, fun _ hchanged => absurd hm hchanged⟩
  · exact ⟨reports.bfar left, reports.mmfar left⟩

end Sys2Proof.Machine

/-! Lock-up (R304), and the status bits that no event but reset clears (R310, R324). -/

namespace Sys2Proof.Machine

/-! ## Lock-up -/

/-- In lock-up the inputs are not latched (R304). -/
theorem latchAuxfault_lockedUp {s : State} (h : s.lockedUp = true) : latchAuxfault s = s := if_pos h

theorem latchBefore_lockedUp {s : State} (h : s.lockedUp = true) (e : Event) : latchBefore e s = s := by
  unfold latchBefore
  split
  · rfl
  · exact latchAuxfault_lockedUp h

/-- In lock-up an event but reset is an instruction that never comes, or is lost (R304, log 26). -/
theorem stepEvent_lockedUp {e : Event} {s : State} (h : s.lockedUp = true) (he : e ≠ .reset) :
    stepEvent e s = .fault .lockUp ∨ stepEvent e s = .next s := by
  rw [stepEvent, if_pos h, lockedUpEvent, if_neg he]
  split
  · exact .inl rfl
  · exact .inr rfl

/-- Settles O8: in lock-up a step takes the head of the schedule, and does no more than that. -/
theorem lockUpIsTerminalUntilReset : Obligations.LockUpIsTerminalUntilReset := by
  intro s hlock
  have fetched : (afterFetch s).lockedUp = true := hlock
  refine ⟨fun bytes rest hsched => ?_, fun e rest hsched he => ?_, fun hsched => ?_⟩
  · rw [step_access hsched, latchAuxfault_lockedUp fetched]
    exact if_pos fetched
  · have taken : afterFetch s = { s with schedule := rest } := by simp [afterFetch, hsched]
    rw [step_event hsched, latchBefore_lockedUp fetched, ← taken]
    exact stepEvent_lockedUp fetched he
  · rw [step, hsched]
    exact congrArg Host.Outcome.next (latchAuxfault_lockedUp hlock)

/-! ## The relation: no status bit is cleared -/

/-- From `s` to `t` no cause's flag is cleared, nor FORCED, VECTTBL or a bit of AFSR. -/
structure StatusKept (s t : State) : Prop where
  flags : ∀ c, cfsrHas s.cfsr c = true → cfsrHas t.cfsr c = true
  forced : s.hfsr.forced = true → t.hfsr.forced = true
  vecttbl : s.hfsr.vecttbl = true → t.hfsr.vecttbl = true
  afsr : s.afsr &&& t.afsr = s.afsr

namespace StatusKept

/-- An update of other fields. -/
theorem of_same {s t : State} (hcfsr : t.cfsr = s.cfsr := by rfl) (hhfsr : t.hfsr = s.hfsr := by rfl)
    (hafsr : t.afsr = s.afsr := by rfl) : StatusKept s t where
  flags c h := hcfsr ▸ h
  forced h := hhfsr ▸ h
  vecttbl h := hhfsr ▸ h
  afsr := by rw [hafsr, BitVec.and_self]

theorem refl (s : State) : StatusKept s s := .of_same

theorem trans {s t u : State} (h : StatusKept s t) (k : StatusKept t u) : StatusKept s u where
  flags c hc := k.flags c (h.flags c hc)
  forced hf := k.forced (h.forced hf)
  vecttbl hv := k.vecttbl (h.vecttbl hv)
  afsr := calc
    s.afsr &&& u.afsr = s.afsr &&& (t.afsr &&& u.afsr) := by rw [← BitVec.and_assoc, h.afsr]
    _ = s.afsr := by rw [k.afsr, h.afsr]

end StatusKept

/-- The exception logic clears no status bit (R310, R324). -/
theorem Evolves.statusKept {s t : State} (h : Evolves s t) : StatusKept s t :=
  ⟨h.flags, h.forced, h.vecttbl, by rw [h.rest.afsr, BitVec.and_self]⟩

/-! ## The events -/

/-- The latch only sets bits of AFSR (R264). -/
theorem latchAuxfault_statusKept (s : State) : StatusKept s (latchAuxfault s) := by
  unfold latchAuxfault
  split
  · exact .refl s
  · exact ⟨fun _ => id, id, id, BitVec.eq_of_getLsbD_eq fun i _ => by simpa using Or.inl⟩

theorem latchBefore_statusKept (e : Event) (s : State) : StatusKept s (latchBefore e s) := by
  unfold latchBefore
  split
  · exact .refl s
  · exact latchAuxfault_statusKept s

theorem requestException_statusKept (n : Nat) (s : State) : StatusKept s (requestException n s) := by
  unfold requestException; dsimp only; split <;> exact .of_same

theorem eventWfe_statusKept (s : State) : StatusKept s (eventWfe s) := by
  unfold eventWfe
  split
  · dsimp only; split <;> exact .of_same
  · exact .of_same

theorem eventAutoFpca_statusKept (v : Bool) (s : State) : StatusKept s (eventAutoFpca v s) := by
  unfold eventAutoFpca; split <;> exact .of_same

theorem eventIrq_statusKept {k : Nat} {s t : State} (h : eventIrq k s = .next t) : StatusKept s t := by
  unfold eventIrq at h
  split at h <;> cases h
  exact requestException_statusKept _ s

theorem eventIrqClear_statusKept {k : Nat} {s t : State} (h : eventIrqClear k s = .next t) : StatusKept s t := by
  unfold eventIrqClear at h
  split at h <;> cases h
  exact .of_same

theorem eventNvic_statusKept {k : Nat} {en : Bool} {p : BitVec 4} {s t : State} (h : eventNvic k en p s = .next t) : StatusKept s t := by
  unfold eventNvic at h
  split at h <;> cases h
  exact .of_same

theorem eventStir_statusKept {priv : Bool} {k : Nat} {s t : State} (h : eventStir priv k s = .next t) : StatusKept s t := by
  unfold eventStir at h
  split at h
  · exact eventIrq_statusKept h
  · cases h

theorem eventCore_statusKept {pc sp : Word} {s t : State} (h : eventCore pc sp s = .next t) : StatusKept s t := by
  unfold eventCore at h
  split at h <;> cases h
  exact .of_same

theorem eventDivideByZero_statusKept (s : State) : StatusKept s (eventDivideByZero s) := by
  unfold eventDivideByZero
  split
  · exact (evolves_reportFault (.inl rfl) s).statusKept
  · exact .of_same

/-- A store is buffered, or completes, with a precise bus error at worst (R125). -/
theorem bufferOrComplete_statusKept (a : Word) (fails : Bool) (s : State) : StatusKept s (bufferOrComplete a fails s) := by
  unfold bufferOrComplete
  split
  · split
    · exact (evolves_preciseBusError false a s).statusKept
    · exact .refl s
  · exact .of_same

/-- What is refused in the block keeps elsewhere what the access keeps. -/
theorem refuseInBlock_statusKept {a : Word} {n : Nat} {why : Refusal} {done s t : State} (hd : StatusKept s done)
    (h : refuseInBlock a n why (.next done) = .next t) : StatusKept s t := by
  obtain ⟨-, hgo⟩ := refuseInBlock_next h
  cases hgo
  exact hd

theorem eventBufferableStore_statusKept {size : Size} {a : Word} {fails : Bool} {s t : State}
    (h : eventBufferableStore size a fails s = .next t) : StatusKept s t := by
  refine refuseInBlock_statusKept ?_ h
  rcases alignedOrTrap_cases s.seen.ccr.unalignTrp size a (bufferOrComplete a fails s) s with ⟨-, -, trapped⟩ | ⟨-, performed⟩
  · rw [trapped]; exact (evolves_reportFault (.inl rfl) s).statusKept
  · rw [performed]; exact bufferOrComplete_statusKept a fails s

theorem eventDrain_statusKept {i : Nat} {fails : Bool} {next : Word} {s t : State} (h : eventDrain i fails next s = .next t) :
    StatusKept s t := by
  have completed : StatusKept s { s with writeBuffer := s.writeBuffer.eraseIdx i } := .of_same
  unfold eventDrain at h
  split at h
  · dsimp only at h
    split at h
    · split at h <;> cases h
      exact completed.trans (evolves_impreciseBusError next _).statusKept
    · cases h; exact completed
  · cases h; exact .refl s

/-- No event that is performed clears a status bit, but for reset. -/
theorem performEvent_statusKept {e : Event} {s t : State} (he : e ≠ .reset) (h : performEvent e s = .next t) : StatusKept s t := by
  cases e with
  | reset => exact absurd rfl he
  | auxfault level =>
    cases h
    have input : StatusKept s { s with auxfault := level } := .of_same
    exact input.trans (latchAuxfault_statusKept _)
  | nmi | sysTick | svc => cases h; exact requestException_statusKept _ s
  | irq => exact eventIrq_statusKept h
  | irqClear => exact eventIrqClear_statusKept h
  | nvic => exact eventNvic_statusKept h
  | stir => exact eventStir_statusKept h
  | core => exact eventCore_statusKept h
  | autoFpca v => cases h; exact eventAutoFpca_statusKept v s
  | wfe => cases h; exact eventWfe_statusKept s
  | observe | masks | externalEvent | sev | wfi | prefetchError | entryErrors => cases h; exact .of_same
  | divideByZero => cases h; exact eventDivideByZero_statusKept s
  | coprocessor | illegalEpsr | undefinedInstr => cases h; exact (evolves_reportFault (.inl rfl) s).statusKept
  | issueError | fetchViolation => exact refuseInBlock_statusKept (evolves_reportFault (.inl rfl) s).statusKept h
  | dataAccess | multiAccess => exact refuseInBlock_statusKept (evolves_alignedOrTrap _ _ _ s).statusKept h
  | busError load size a => exact refuseInBlock_statusKept (evolves_preciseBusError load a s).statusKept h
  | dataViolation size a => exact refuseInBlock_statusKept (evolves_dataViolation size a s).statusKept h
  | lazyBusError a => exact refuseInBlock_statusKept (evolves_lazyFault (c := .lsperr) trivial a s).statusKept h
  | lazyViolation a => exact refuseInBlock_statusKept (evolves_lazyFault (c := .mlsperr) trivial a s).statusKept h
  | fetch => exact refuseInBlock_statusKept (.refl s) h
  | bufferableStore => exact eventBufferableStore_statusKept h
  | drain => exact eventDrain_statusKept h
  | takeException m next => cases h; exact (evolves_eventTakeException m next s).statusKept
  | exceptionReturn th v u => cases h; exact (evolves_exceptionReturn th v u s).statusKept

/-- So it is for the event that a step serves: one that is lost in lock-up changes nothing. -/
theorem stepEvent_statusKept {e : Event} {s t : State} (he : e ≠ .reset) (h : stepEvent e s = .next t) : StatusKept s t := by
  rcases stepEvent_next h with ⟨-, hreset, -⟩ | ⟨-, -, rfl⟩ | ⟨-, -, -, performed⟩
  · exact absurd hreset he
  · exact .refl _
  · exact performEvent_statusKept he performed

/-- Settles O12: the latch before the event sets bits, and the event clears none. -/
theorem eventsNeverClearAStatusBit : Obligations.EventsNeverClearAStatusBit := by
  intro s t e rest hsched he hstep
  rw [step_event hsched] at hstep
  have fetched : StatusKept s (afterFetch s) := .of_same
  have kept := (fetched.trans (latchBefore_statusKept e _)).trans (stepEvent_statusKept he hstep)
  exact ⟨kept.flags, kept.forced, kept.vecttbl, kept.afsr⟩

end Sys2Proof.Machine

/-! The report of a fault (R301 to R304): the fault that can be taken, the one that is escalated, and the one that locks the processor up. -/

namespace Sys2Proof.Machine

/-! ## What is left of a record -/

/-- A record is one of CFSR and the address registers alone. -/
theorem Recorded.of_same {c : Cause} {a : FaultAddr} {s t u : State} (h : Recorded c a s t) (hcfsr : u.cfsr = t.cfsr)
    (hbfar : u.bfar = t.bfar) (hmmfar : u.mmfar = t.mmfar) : Recorded c a s u := by
  have kept : AddressesKept s t → AddressesKept s u := fun k =>
    ⟨hbfar.trans k.bfar, hcfsr ▸ k.bfarvalid, hmmfar.trans k.mmfar, hcfsr ▸ k.mmarvalid⟩
  have written {x : Word} (w : AddressWritten (causeClass c) x s t) : AddressWritten (causeClass c) x s u := by
    refine ⟨fun hn => ?_, fun hn => ?_, fun hn => kept (w.usage hn)⟩
    · rw [hcfsr, hbfar, hmmfar]; exact w.bus hn
    · rw [hcfsr, hbfar, hmmfar]; exact w.mem hn
  refine ⟨hcfsr ▸ h.flag, fun d hd => hcfsr ▸ h.others d hd, ?_⟩
  have address := h.address
  cases a with
  | none => exact kept address
  | known x => exact written address
  | unspecified x => exact address.imp kept written

/-- The record of a fault leaves HFSR: no bit of it belongs to a cause (R302). -/
theorem recordFault_hfsr (c : Cause) (a : FaultAddr) (s : State) : (recordFault c a s).hfsr = s.hfsr := by
  obtain ⟨k, frame⟩ := recordFault_frame c a s
  rw [frame]

theorem isPending_recordFault (c : Cause) (a : FaultAddr) (s : State) (n : Nat) : (recordFault c a s).isPending n = s.isPending n := by
  obtain ⟨k, frame⟩ := recordFault_frame c a s
  rw [frame]
  rfl

theorem sameConfig_recordFault (c : Cause) (a : FaultAddr) (s : State) : SameConfig s (recordFault c a s) := by
  obtain ⟨k, frame⟩ := recordFault_frame c a s
  rw [frame]
  constructor <;> rfl

theorem sameRest_recordFault (c : Cause) (a : FaultAddr) (s : State) : SameRest s (recordFault c a s) := by
  obtain ⟨k, frame⟩ := recordFault_frame c a s
  rw [frame]
  constructor <;> rfl

theorem recordFault_entryErrors (c : Cause) (a : FaultAddr) (s : State) : (recordFault c a s).entryErrors = s.entryErrors := by
  obtain ⟨k, frame⟩ := recordFault_frame c a s
  rw [frame]

/-- Whether an exception can be taken does not depend on what is recorded. -/
theorem canTake_recordFault (c : Cause) (a : FaultAddr) (s : State) (n : Nat) : canTake (recordFault c a s) n = canTake s n := by
  obtain ⟨k, frame⟩ := recordFault_frame c a s
  rw [frame]
  rfl

/-- What a handler is entered with after a record is the state before the record. -/
theorem Entered.of_recordFault {c : Cause} {a : FaultAddr} {n : Nat} {s t : State} (h : Entered n (recordFault c a s) t) :
    Entered n s t := by
  obtain ⟨k, frame⟩ := recordFault_frame c a s
  rw [frame] at h
  exact h.of_same rfl rfl rfl rfl rfl rfl

/-! ## Entering a handler with the record made -/

/-- An entry without errors leaves CFSR, HFSR, the address registers, the configuration and the other pending states. -/
structure EntryKeeps (n : Nat) (s t : State) : Prop where
  cfsr : t.cfsr = s.cfsr
  hfsr : t.hfsr = s.hfsr
  bfar : t.bfar = s.bfar
  mmfar : t.mmfar = s.mmfar
  pending : ∀ m, m ≠ n → t.isPending m = s.isPending m
  config : SameConfig s t
  rest : SameRest s t

theorem takeException_keeps {s : State} (herrors : s.entryErrors = []) (n : Nat) : EntryKeeps n s (takeException n s) := by
  rw [takeException_of_noErrors herrors]
  exact
    { cfsr := rfl, hfsr := rfl, bfar := rfl, mmfar := rfl
      pending := fun m hm => by simp [Ne.symm hm]
      config := by constructor <;> rfl
      rest := by constructor <;> rfl }

/-- A handler that is entered with a fault recorded, whatever HFSR and the pending states are then: the record stays, and the entry is one from the
state before it (R302, R311). -/
theorem takeException_recorded {c : Cause} {a : FaultAddr} {n : Nat} {s u : State} {h : Hfsr} {p : Vector Bool 128} (hn : n < 128)
    (herrors : s.entryErrors = []) (hu : u = { recordFault c a s with hfsr := h, pending := p })
    (hpending : ∀ m, m ≠ n → u.isPending m = s.isPending m) :
    Recorded c a s (takeException n u) ∧ (takeException n u).hfsr = h ∧
      (∀ m, m ≠ n → (takeException n u).isPending m = s.isPending m) ∧
      Entered n s (takeException n u) ∧ SameConfig s (takeException n u) ∧ SameRest s (takeException n u) := by
  subst hu
  have noErrors : (recordFault c a s).entryErrors = [] := (recordFault_entryErrors c a s).trans herrors
  have kept := takeException_keeps (s := { recordFault c a s with hfsr := h, pending := p }) noErrors n
  have entered := takeException_entered (s := { recordFault c a s with hfsr := h, pending := p }) hn noErrors
  exact ⟨(recorded_recordFault c a s).of_same kept.cfsr kept.bfar kept.mmfar, kept.hfsr,
    fun m hm => (kept.pending m hm).trans (hpending m hm), Entered.of_recordFault (entered.of_same rfl rfl rfl rfl rfl rfl),
    (sameConfig_recordFault c a s).trans (.trans (by constructor <;> rfl) kept.config),
    (sameRest_recordFault c a s).trans (.trans (by constructor <;> rfl) kept.rest)⟩

/-- A fault that can be taken makes its exception pending, and that is taken at once (R302). -/
theorem reportFault_taken {c : Cause} (a : FaultAddr) {s : State} (hlock : s.lockedUp = false) (htake : canTake s (causeClass c) = true) :
    reportFault c a s = takeException (causeClass c) ((recordFault c a s).setPending (causeClass c) true) := by
  unfold reportFault reportWith
  rw [if_neg (by simp [hlock])]
  exact if_pos ((canTake_recordFault c a s _).trans htake)

/-- One that cannot be taken is escalated after its record (R302). -/
theorem reportFault_notTaken {c : Cause} (a : FaultAddr) {s : State} (hlock : s.lockedUp = false)
    (htake : canTake s (causeClass c) = false) : reportFault c a s = escalateWith takeException c (recordFault c a s) := by
  unfold reportFault reportWith
  rw [if_neg (by simp [hlock])]
  exact if_neg (by simp [canTake_recordFault, htake])

theorem causeClass_lt (c : Cause) : causeClass c < 128 := by cases c <;> decide

/-! ## Escalation -/

/-- Settles O40: the fault is recorded, and what is entered, from the escalated state, is the hard fault. -/
theorem faultThatCannotBeTakenIsEscalated : Obligations.FaultThatCannotBeTakenIsEscalated := by
  intro c a s hlock herrors htake hprio
  have entered : reportFault c a s = takeException excHardFault (escalated (recordFault c a s)) :=
    (reportFault_notTaken a hlock htake).trans (escalateWith_above takeException c (by rwa [currentPriority_recordFault]))
  rw [entered, ← recordFault_hfsr c a s]
  refine takeException_recorded (by decide) herrors rfl fun n hn => ?_
  rw [escalated, isPending_setPending, if_neg fun h => hn h.1.symm, ← isPending_recordFault c a s]
  rfl

/-! ## The events that report a fault -/

/-- A fetch that goes wrong outside the block is reported (R244, R250). -/
theorem eventFetchFault_outside (c : Cause) {size : Size} {s : State} (h : OutsideBlock s.pc size.bytes) :
    eventFetchFault c size s = .next (reportFault c .none s) := refuseInBlock_outside h _ _

/-- In the block it is refused (R85). -/
theorem eventFetchFault_inside (c : Cause) {size : Size} {s : State} {k : Nat} (hk : k < size.bytes)
    (h : isListed (s.pc + BitVec.ofNat 32 k) = true) : eventFetchFault c size s = .refused .fetchFromScb := refuseInBlock_inside hk h _ _

/-- A data access violation is the report of DACCVIOL with an address of the access, the first of an aligned one (R249, R258). -/
theorem dataViolation_reported (size : Size) (a : Word) (s : State) :
    ∃ d, d < size.bytes ∧ (a.toNat % size.bytes = 0 → d = 0) ∧
      dataViolation size a s = reportFault .daccviol (.known (a + BitVec.ofNat 32 d)) (s.bump 1) := by
  obtain ⟨d, hd, hbyte, hal⟩ := violationAddr_eq size a s
  exact ⟨d, hd, hal, by rw [dataViolation, hbyte]⟩

/-- Settles O39: after its record the fault makes its exception pending, which is entered; the events are the reports by definition, outside the
block. -/
theorem faultThatCanBeTakenEntersItsHandler : Obligations.FaultThatCanBeTakenEntersItsHandler := by
  refine ⟨fun c a s hlock herrors htake => ?_, fun s => ?_⟩
  · rw [reportFault_taken a hlock htake, ← recordFault_hfsr c a s]
    refine takeException_recorded (causeClass_lt c) herrors rfl fun n hn => ?_
    rw [isPending_setPending, if_neg fun h => hn h.1.symm, isPending_recordFault]
  · refine ⟨rfl, rfl, rfl, rfl, rfl, fun size hout => ⟨eventFetchFault_outside .ibuserr hout, eventFetchFault_outside .iaccviol hout⟩,
      fun size k hk hlisted => ⟨eventFetchFault_inside .ibuserr hk hlisted, eventFetchFault_inside .iaccviol hk hlisted⟩,
      fun load size a hout hcounts => ?_, fun size a hout => ?_, fun a hout => ⟨_, singleOutsideBlock_outside (size := .word) _ hout⟩,
      fun a hout => ⟨_, singleOutsideBlock_outside (size := .word) _ hout⟩⟩
    · rw [← preciseBusError_reported hcounts load a]
      exact singleOutsideBlock_outside _ hout
    · obtain ⟨d, hd, hal, reported⟩ := dataViolation_reported size a s
      exact ⟨d, hd, hal, (singleOutsideBlock_outside _ hout).trans (congrArg Host.Outcome.next reported)⟩

/-! ## Priority −1 and −2 -/

/-- Whether a fault of cause `c` at priority −1 or −2 locks the processor up: every one, but a data bus error under BFHFNMIGN (R191, R303, R304). -/
def locksUp (c : Cause) (s : State) : Bool := decide (causeIsDataBusError c = false ∨ s.seen.ccr.bfhfnmign = false)

/-- Whatever fault is reported at priority −1 or −2, it leaves its record, and locks up or does not. -/
theorem reportFault_atMinusOne (c : Cause) (a : FaultAddr) {s : State} (hlock : s.lockedUp = false) (hprio : currentPriority s ≤ -1) :
    reportFault c a s = { recordFault c a s with lockedUp := locksUp c s } := by
  by_cases h : causeIsDataBusError c = false ∨ s.seen.ccr.bfhfnmign = false
  · rw [reportFault_locksUp a hlock hprio h, State.lockUp, locksUp, decide_eq_true h]
  · have recordedLock : (recordFault c a s).lockedUp = false := by
      obtain ⟨k, frame⟩ := recordFault_frame c a s
      rw [frame]
      exact hlock
    have ignored : (causeIsDataBusError c && (recordFault c a s).seen.ccr.bfhfnmign) = true := by
      rw [recordFault_seen]
      simpa using h
    rw [reportFault_notTaken a hlock (canTake_causeClass c hprio), escalateWith, if_pos (by rwa [currentPriority_recordFault]),
      if_pos ignored, locksUp, decide_eq_false h, ← recordedLock]

/-- What a fault at priority −1 or −2 leaves where it is not ignored: lock-up and its flag, and neither a frame nor another exception entered. -/
structure LockedUpBy (c : Cause) (s t : State) : Prop where
  lockedUp : t.lockedUp = true
  flag : cfsrHas t.cfsr c = true
  frames : t.frames = s.frames
  ipsr : t.ipsr = s.ipsr

theorem lockedUpBy_reportFault {c : Cause} {s : State} (a : FaultAddr) (hlock : s.lockedUp = false) (hprio : currentPriority s ≤ -1)
    (h : causeIsDataBusError c = false ∨ s.seen.ccr.bfhfnmign = false) : LockedUpBy c s (reportFault c a s) := by
  obtain ⟨k, frame⟩ := recordFault_frame c a s
  rw [reportFault_locksUp a hlock hprio h]
  exact ⟨rfl, recordFault_flag c a s, by rw [frame]; rfl, by rw [frame]; rfl⟩

/-- A data access violation at priority −1 or −2 locks up, whatever BFHFNMIGN says (R249, D22). -/
theorem lockedUpBy_dataViolation (size : Size) (a : Word) {s : State} (hlock : s.lockedUp = false) (hprio : currentPriority s ≤ -1) :
    LockedUpBy .daccviol s (dataViolation size a s) := by
  have locked := lockedUpBy_reportFault (c := .daccviol) (s := s.bump 1) (.known (violationAddr size a s)) hlock hprio (.inl rfl)
  exact ⟨locked.lockedUp, locked.flag, locked.frames, locked.ipsr⟩

/-- So does an error of lazy state preservation: it is no data bus error (D22, log 28). -/
theorem lockedUpBy_eventLazyFault {c : Cause} (hc : causeIsDataBusError c = false) (a : Word) {s : State} (hlock : s.lockedUp = false)
    (hprio : currentPriority s ≤ -1) : LockedUpBy c s (eventLazyFault c a s) := by
  have locked := lockedUpBy_reportFault (s := { s with pc := Config.drawWord s.drawn, drawn := s.drawn + 1 }) (.unspecified a) hlock hprio
    (.inl hc)
  exact ⟨locked.lockedUp, locked.flag, locked.frames, locked.ipsr⟩

/-- Settles O41: at −1 and −2 nothing can be taken and nothing is escalated, so the record and lock-up are all that a report can leave. -/
theorem faultAtMinusOneOrMinusTwoLocksUp : Obligations.FaultAtMinusOneOrMinusTwoLocksUp := by
  intro s hlock hprio
  refine ⟨fun c a => ⟨?_, ?_⟩, fun c => ?_, fun load size a hout hclear => ?_, fun size a hout => ?_, fun a hout => ?_, fun a hout => ?_⟩
  · rw [reportFault_atMinusOne c a hlock hprio]
    exact (recorded_recordFault c a s).of_same rfl rfl rfl
  · obtain ⟨k, frame⟩ := recordFault_frame c a s
    refine ⟨k, ?_⟩
    rw [reportFault_atMinusOne c a hlock hprio]
    exact congrArg (fun t : State => { t with lockedUp := locksUp c s }) frame
  · rw [reportFault_atMinusOne c .none hlock hprio]
    exact ⟨rfl, rfl⟩
  · have locked := lockedUpBy_reportFault (c := .preciserr) (.known a) hlock hprio (.inr hclear)
    refine ⟨_, ?_, locked.lockedUp, locked.flag, locked.frames, locked.ipsr⟩
    rw [← preciseBusError_reported (.inr hclear) load a]
    exact singleOutsideBlock_outside _ hout
  · have locked := lockedUpBy_dataViolation size a hlock hprio
    exact ⟨_, singleOutsideBlock_outside _ hout, locked.lockedUp, locked.flag, locked.frames, locked.ipsr⟩
  · have locked := lockedUpBy_eventLazyFault (c := .lsperr) rfl a hlock hprio
    exact ⟨_, singleOutsideBlock_outside (size := .word) _ hout, locked.lockedUp, locked.flag, locked.frames, locked.ipsr⟩
  · have locked := lockedUpBy_eventLazyFault (c := .mlsperr) rfl a hlock hprio
    exact ⟨_, singleOutsideBlock_outside (size := .word) _ hout, locked.lockedUp, locked.flag, locked.frames, locked.ipsr⟩

end Sys2Proof.Machine

/-! Taking the highest-priority exception, and returning from one (R305 to R314). -/

namespace Sys2Proof.Machine

/-! ## The exception that is taken -/

/-- An exception may preempt if it is pending, enabled and unmasked, and of a higher group priority than what executes (R309). -/
theorem mayPreempt_iff {s : State} {n : Nat} :
    mayPreempt s n = true ↔
      (s.isPending n && enabled s.asSeen n && !masked s n) = true ∧ groupLevel s.asSeen n < currentPriority s := by
  simp [mayPreempt]

/-- The exceptions among which the processor chooses: pending, enabled and unmasked (R308). -/
def takeCandidates (s : State) : List Nat := excNumbers.filter fun n => s.isPending n && enabled s.asSeen n && !masked s n

theorem mem_takeCandidates {s : State} {n : Nat} :
    n ∈ takeCandidates s ↔ (1 ≤ n ∧ n < 128) ∧ (s.isPending n && enabled s.asSeen n && !masked s n) = true := by
  rw [takeCandidates, List.mem_filter, mem_excNumbers]

theorem takeCandidates_sorted (s : State) : (takeCandidates s).Pairwise (· < ·) := excNumbers_sorted.filter _

/-- The choice is taken if it may preempt. -/
theorem nextException_eq (s : State) :
    nextException s = (highest (prio s.asSeen) (takeCandidates s)).filter (mayPreempt s) := by
  rw [nextException, takeCandidates]
  cases highest (prio s.asSeen) (excNumbers.filter fun n => s.isPending n && enabled s.asSeen n && !masked s n) <;> rfl

/-- If an exception may preempt, the best of the candidates does, and is of no lower priority (R308, R309). -/
theorem nextException_of_mayPreempt {s : State} {n : Nat} (h1 : 1 ≤ n) (h2 : n < 128) (h : mayPreempt s n = true) :
    ∃ m, nextException s = some m ∧ 1 ≤ m ∧ m < 128 ∧ mayPreempt s m = true ∧
      (prio s.asSeen m < prio s.asSeen n ∨ prio s.asSeen m = prio s.asSeen n ∧ m ≤ n) := by
  obtain ⟨hcand, hlevel⟩ := mayPreempt_iff.mp h
  have hn : n ∈ takeCandidates s := mem_takeCandidates.mpr ⟨⟨h1, h2⟩, hcand⟩
  obtain ⟨hnone, hsome⟩ := highest_spec (prio s.asSeen) (takeCandidates s) (takeCandidates_sorted s)
  cases hbest : highest (prio s.asSeen) (takeCandidates s) with
  | none => simp [hnone.mp hbest] at hn
  | some m =>
    obtain ⟨hm, hleast⟩ := hsome m hbest
    obtain ⟨⟨hm1, hm2⟩, hmcand⟩ := mem_takeCandidates.mp hm
    have best := hleast n hn
    have hmono : groupLevel s.asSeen m ≤ groupLevel s.asSeen n := groupLevel_mono (by omega)
    have preempts : mayPreempt s m = true := mayPreempt_iff.mpr ⟨hmcand, hmono.trans_lt hlevel⟩
    exact ⟨m, by rw [nextException_eq, hbest]; simp [preempts], hm1, hm2, preempts, best⟩

/-- If none may preempt, none is taken. -/
theorem nextException_none {s : State} (h : ∀ n, n < 128 → 1 ≤ n → mayPreempt s n = false) : nextException s = none := by
  rw [nextException_eq]
  cases hbest : highest (prio s.asSeen) (takeCandidates s) with
  | none => rfl
  | some m =>
    obtain ⟨hm, -⟩ := (highest_spec (prio s.asSeen) (takeCandidates s) (takeCandidates_sorted s)).2 m hbest
    obtain ⟨⟨hm1, hm2⟩, -⟩ := mem_takeCandidates.mp hm
    simp [h m hm2 hm1]

theorem eventTakeException_eq (next : Word) (s : State) :
    eventTakeException false next s = (nextException s).elim s fun n => takeException n { s with pc := next } := by
  rw [eventTakeException, Bool.false_and]
  cases nextException s <;> rfl

/-- Settles O48: the exception taken is the best candidate, and its entry meets no errors. -/
theorem highestPriorityExceptionIsTaken : Obligations.HighestPriorityExceptionIsTaken := by
  intro s next herrors
  refine ⟨fun hno => ?_, fun n h2 h1 hpre => ?_⟩
  · have idle : eventTakeException false next s = s := by rw [eventTakeException_eq, nextException_none hno]; rfl
    exact congrArg Host.Outcome.next idle
  · obtain ⟨m, taken, hm1, hm2, preempts, best⟩ := nextException_of_mayPreempt h1 h2 hpre
    have event : eventTakeException false next s = takeException m { s with pc := next } := by rw [eventTakeException_eq, taken]; rfl
    have kept := takeException_keeps (s := { s with pc := next }) herrors m
    exact ⟨m, takeException m { s with pc := next }, hm1, hm2, preempts, best, congrArg Host.Outcome.next event,
      takeException_entered hm2 herrors, SameConfig.trans (by constructor <;> rfl) kept.config,
      SameRest.trans (by constructor <;> rfl) kept.rest, kept.cfsr, kept.hfsr, kept.pending⟩

/-! ## Equal group priorities -/

/-- The level of a configurable exception is its group value (R170). -/
theorem groupLevel_configurable {s : State} {n : Nat} (h : isConfigurable n) :
    groupLevel s n = ((groupValue (configPrio s n) s.prigroup).toNat : Int) := by
  obtain ⟨hnmi, hhard⟩ := h
  rw [groupLevel, if_neg hnmi, if_neg hhard]

/-- An exception does not preempt an active one unless its group priority is higher (R309). -/
theorem mayPreempt_of_active {s : State} {n m : Nat} (h1 : 1 ≤ m) (h2 : m < 128) (hactive : s.isActive m = true)
    (h : groupLevel s.asSeen m ≤ groupLevel s.asSeen n) : mayPreempt s n = false := by
  refine Bool.eq_false_iff.mpr fun hpre => ?_
  obtain ⟨-, hlevel⟩ := mayPreempt_iff.mp hpre
  have hcurrent := currentPriority_le h1 h2 hactive
  omega

/-- Under PRIGROUP = 0b111 there are no group priority bits (R170, Table 50). -/
theorem groupValue_seven : ∀ p : Byte, groupValue p 0b111#3 = 0#8 := by decide

/-- Settles O50: the current priority is that of the active exception at least, which the other's does not exceed. -/
theorem equalGroupPriorityNeverPreempts : Obligations.EqualGroupPriorityNeverPreempts := by
  intro s n m hn hm h1 h2 hactive
  have equal (h : groupValue (configPrio s.asSeen n) s.seen.prigroup = groupValue (configPrio s.asSeen m) s.seen.prigroup) :
      mayPreempt s n = false := by
    have levels : groupLevel s.asSeen n = groupLevel s.asSeen m := by
      rw [groupLevel_configurable hn, groupLevel_configurable hm]
      exact congrArg (fun v : Byte => (v.toNat : Int)) h
    exact mayPreempt_of_active h1 h2 hactive levels.ge
  exact ⟨equal, fun hgroup => equal (by rw [hgroup, groupValue_seven, groupValue_seven])⟩

/-! ## Legal returns -/

/-- A legal return whose unstacking succeeds resumes the preempted context (R314). -/
theorem exceptionReturn_legal {toThread valid : Bool} {f : Frame} {fs : List Frame} {s : State} (hframes : s.frames = f :: fs)
    (hlegal : returnLegal toThread valid f s = true) :
    exceptionReturn toThread valid none s = resume toThread f fs (s.setActive s.ipsr.toNat false) := by
  simp [exceptionReturn, hframes, hlegal]

theorem isActive_endActive (s : State) (n m : Nat) : (s.setActive n false).isActive m = (s.isActive m && decide (m ≠ n)) := by
  rw [isActive_setActive]
  by_cases hnm : n = m
  · subst hnm
    by_cases hlt : n < 128
    · simp [hlt]
    · simp [isActive_of_ge (Nat.le_of_not_lt hlt)]
  · simp [hnm, Ne.symm hnm]

/-- No exception is left active by the end of `n` exactly when no other was active. -/
theorem noneActive_endActive (s : State) (n : Nat) :
    noneActive (s.setActive n false) = true ↔ ∀ m, 1 ≤ m → m ≠ n → s.isActive m = false := by
  have left (m : Nat) : (!(s.setActive n false).isActive m) = true ↔ (m ≠ n → s.isActive m = false) := by
    rw [isActive_endActive]
    by_cases hm : m = n <;> simp [hm]
  simp only [noneActive, List.all_eq_true, mem_excNumbers, left]
  refine ⟨fun h m hm1 hne => ?_, fun h m hm => h m hm.1⟩
  by_cases hm2 : m < 128
  · exact h m ⟨hm1, hm2⟩ hne
  · exact isActive_of_ge (Nat.le_of_not_lt hm2)

/-- Settles O53: the state after the return is `resume`'s, and the returning exception is the only one that it ends. -/
theorem legalReturnRestoresTheFrame : Obligations.LegalReturnRestoresTheFrame := by
  intro s toThread f fs hframes hlegal
  have none_iff := noneActive_endActive s s.ipsr.toNat
  refine ⟨_, congrArg Host.Outcome.next (exceptionReturn_legal hframes hlegal), isActive_endActive s _, rfl, rfl, rfl, rfl, rfl,
    fun hthread hsleep hnone => ?_, fun hawake => ?_, rfl, rfl, by constructor <;> rfl, by constructor <;> rfl⟩
  · exact if_pos (by simp [hthread, hsleep, none_iff.mpr hnone])
  · refine if_neg fun hsleeps => ?_
    simp only [Bool.and_eq_true] at hsleeps
    obtain ⟨⟨hthread, hsleep⟩, hnone⟩ := hsleeps
    rcases hawake with hhandler | hoff | ⟨m, hm1, hne, hactive⟩
    · cases hhandler.symm.trans hthread
    · cases hoff.symm.trans hsleep
    · cases hactive.symm.trans (none_iff.mp hnone m hm1 hne)

end Sys2Proof.Machine

/-! The invariant at reset (R51, R381). -/

namespace Sys2Proof.Machine

/-- Nothing is pending at reset, whatever was drawn before it: the state is the one that the reset event leaves (R381, D23). -/
@[simp] theorem isPending_resetAt (k n : Nat) : (State.resetAt k).isPending n = false :=
  isPending_applyReset { State.reset with drawn := k } n

/-- Nothing is active at reset (R381, D23). -/
@[simp] theorem isActive_resetAt (k n : Nat) : (State.resetAt k).isActive n = false :=
  isActive_applyReset { State.reset with drawn := k } n

/-- The invariant holds at every reset: no exception is pending or active that could be out of range, and HFSR is 0 (R51, D17). -/
theorem inv_resetAt (k : Nat) : Inv (State.resetAt k) := by
  refine ⟨fun n _ hset => ?_, rfl⟩
  rcases hset with hpending | hactive
  · simp at hpending
  · simp at hactive

/-- Settles O10: the state after reset is that of a reset before anything was drawn. -/
theorem resetHasTheInvariant : Obligations.ResetHasTheInvariant := inv_resetAt 0

end Sys2Proof.Machine
